-- ==== Sys2Proof/Word.lean ====
section
/-! DEFINITION. The two widths of the machine (R5): a byte, and a 16-bit word (an address, a register pair, SP, PC). -/

namespace Sys2Proof

/-- An 8-bit value: a general register, a byte of memory, an opcode (R5). -/
abbrev Byte := BitVec 8

/-- A 16-bit value: an address, a register pair, SP or PC (R5). -/
abbrev Word := BitVec 16

end Sys2Proof
end

