-- ==== Sys2Proof/Config.lean ====
section
/-! DEFINITION. The parameters that stay fixed for one machine (R6), and the values the spec leaves undefined. -/

namespace Sys2Proof

/-- `MODEL`: the requested model identifier (R6). Only `dmg` is supported; any other is kept by its name, because the fault
register records it (R301, R302). -/
inductive ModelId where
  | dmg
  | other (name : String)
deriving DecidableEq, Repr

/-- `RESET_PC`: one of the two values of R6 (92 D5). -/
inductive ResetPc where
  /-- 0x0000, the source's literal and the default (R341). -/
  | at0000
  /-- 0x0100, the cartridge entry point (R341). -/
  | at0100
deriving DecidableEq, Repr

/-- `ILLEGAL_OPCODE_MODE`: what the eleven unused opcodes do (R6, R285). -/
inductive IllegalOpcodeMode where
  | nop
  | fatal
  | lockup
deriving DecidableEq, Repr

/-- The static configuration port of R33, which holds the parameters of R6. `MEM`, the memory and its behaviour, is the other
argument of construction. -/
structure Config where
  model : ModelId
  resetPc : ResetPc
  illegalOpcodeMode : IllegalOpcodeMode
  irqConnected : Bool
  stopWakeConnected : Bool
deriving DecidableEq, Repr

/-- The default column of R6. -/
def Config.default : Config :=
  ⟨.dmg, .at0000, .nop, false, false⟩

/-- The register number `k` of a core constructed for an unsupported model: "Its registers hold no defined values" (R302).
A free value (log entry 5): no proof can learn it. -/
opaque Config.undefinedByte : Nat → Byte

/-- SP (0) and PC (1) of a core constructed for an unsupported model (R302). A free value (log entry 5). -/
opaque Config.undefinedWord : Nat → Word

/-- The answer to a read of an external address when the host's answers are used up; the argument counts what went over the ports
before. "The value is whatever the Memory answers" (R51). A free value (log entry 21): no proof can learn it. -/
opaque Config.unansweredByte : Nat → Byte

end Sys2Proof
end

