-- ==== Sys2Proof/Syntax.lean ====
section
/-! DEFINITION. The instruction set as syntax: the operand names of R85, R86, R87 and R96, and ONE constructor for each of the
512 rows of spec/opcode_table.json: first the base rows that fetch operand bytes, then the other base rows, then the extended
rows, each in the table's order. An operand byte or word the row fetches is an argument of its constructor. (The rows with
operands come first because Lean's runtime has no tag for a constructor with fields after the 245th.) -/

namespace Sys2Proof

/-- The registers of the 3-bit code of R85, in the order of their codes. Code 6 is the byte at HL, not a register. -/
inductive Reg where
  | b | c | d | e | h | l | a
deriving DecidableEq, Repr

/-- What a 3-bit operand code of R85 names: a register, or the byte at HL (code 6). -/
inductive Operand8 where
  | reg (r : Reg)
  | atHl
deriving DecidableEq, Repr

/-- The `rr` row of R86. -/
inductive Pair where
  | bc | de | hl | sp
deriving DecidableEq, Repr

/-- The `qq` row of R86 (PUSH and POP). -/
inductive StackPair where
  | bc | de | hl | af
deriving DecidableEq, Repr

/-- The conditions of R87, in the order of their codes. -/
inductive Cond where
  | nz | z | nc | c
deriving DecidableEq, Repr

/-- The 8-bit ALU operations of R150, in the order of their codes. -/
inductive AluOp where
  | add | adc | sub | sbc | and | xor | or | cp
deriving DecidableEq, Repr

/-- The rotates and shifts of the extended table (R96), in the order of their codes. -/
inductive ShiftOp where
  | rlc | rrc | rl | rr | sla | sra | swap | srl
deriving DecidableEq, Repr

/-- The eleven unused base opcodes of R97. -/
inductive UnusedOpcode where
  | xD3 | xDB | xDD | xE3 | xE4 | xEB | xEC | xED | xF4 | xFC | xFD
deriving DecidableEq, Repr

/-- The instructions. A constructor is named after its row's mnemonic: registers by one capital letter, pairs as `Bc`, a memory
operand as `At…`, an operand byte or word by its name in the spec (`D8`, `D16`, `A8`, `A16`, `E8`). `prefixCb` is the table's row
of the prefix byte 0xCB with the extended opcode that follows it (R286); `stop` carries its ignored second byte (R282). -/
inductive Instr where
  | ldBcD16 (v : Word)  -- 01: LD BC,d16, R141
  | ldBD8 (n : Byte)  -- 06: LD B,d8, R112
  | ldAtA16Sp (a : Word)  -- 08: LD (a16),SP, R142
  | ldCD8 (n : Byte)  -- 0E: LD C,d8, R112
  | stop (x : Byte)  -- 10: STOP, R282
  | ldDeD16 (v : Word)  -- 11: LD DE,d16, R141
  | ldDD8 (n : Byte)  -- 16: LD D,d8, R112
  | jrE8 (e : Byte)  -- 18: JR e8, R205
  | ldED8 (n : Byte)  -- 1E: LD E,d8, R112
  | jrNzE8 (e : Byte)  -- 20: JR NZ,e8, R206
  | ldHlD16 (v : Word)  -- 21: LD HL,d16, R141
  | ldHD8 (n : Byte)  -- 26: LD H,d8, R112
  | jrZE8 (e : Byte)  -- 28: JR Z,e8, R206
  | ldLD8 (n : Byte)  -- 2E: LD L,d8, R112
  | jrNcE8 (e : Byte)  -- 30: JR NC,e8, R206
  | ldSpD16 (v : Word)  -- 31: LD SP,d16, R141
  | ldAtHlD8 (n : Byte)  -- 36: LD (HL),d8, R115
  | jrCE8 (e : Byte)  -- 38: JR C,e8, R206
  | ldAD8 (n : Byte)  -- 3E: LD A,d8, R112
  | jpNzA16 (a : Word)  -- C2: JP NZ,a16, R203
  | jpA16 (a : Word)  -- C3: JP a16, R202
  | callNzA16 (a : Word)  -- C4: CALL NZ,a16, R208
  | addAD8 (n : Byte)  -- C6: ADD A,d8, R154
  | jpZA16 (a : Word)  -- CA: JP Z,a16, R203
  | prefixCb (op2 : Byte)  -- CB: PREFIX CB, R286
  | callZA16 (a : Word)  -- CC: CALL Z,a16, R208
  | callA16 (a : Word)  -- CD: CALL a16, R207
  | adcAD8 (n : Byte)  -- CE: ADC A,d8, R157
  | jpNcA16 (a : Word)  -- D2: JP NC,a16, R203
  | callNcA16 (a : Word)  -- D4: CALL NC,a16, R208
  | subD8 (n : Byte)  -- D6: SUB d8, R160
  | jpCA16 (a : Word)  -- DA: JP C,a16, R203
  | callCA16 (a : Word)  -- DC: CALL C,a16, R208
  | sbcAD8 (n : Byte)  -- DE: SBC A,d8, R163
  | ldhAtA8A (n : Byte)  -- E0: LDH (a8),A, R125
  | andD8 (n : Byte)  -- E6: AND d8, R166
  | addSpE8 (e : Byte)  -- E8: ADD SP,e8, R194
  | ldAtA16A (a : Word)  -- EA: LD (a16),A, R121
  | xorD8 (n : Byte)  -- EE: XOR d8, R169
  | ldhAAtA8 (n : Byte)  -- F0: LDH A,(a8), R124
  | orD8 (n : Byte)  -- F6: OR d8, R172
  | ldHlSpE8 (e : Byte)  -- F8: LD HL,SP+e8, R144
  | ldAAtA16 (a : Word)  -- FA: LD A,(a16), R120
  | cpD8 (n : Byte)  -- FE: CP d8, R175
  | nop  -- 00: NOP, R280
  | ldAtBcA  -- 02: LD (BC),A, R118
  | incBc  -- 03: INC BC, R192
  | incB  -- 04: INC B, R176
  | decB  -- 05: DEC B, R178
  | rlca  -- 07: RLCA, R240
  | addHlBc  -- 09: ADD HL,BC, R191
  | ldAAtBc  -- 0A: LD A,(BC), R116
  | decBc  -- 0B: DEC BC, R193
  | incC  -- 0C: INC C, R176
  | decC  -- 0D: DEC C, R178
  | rrca  -- 0F: RRCA, R241
  | ldAtDeA  -- 12: LD (DE),A, R119
  | incDe  -- 13: INC DE, R192
  | incD  -- 14: INC D, R176
  | decD  -- 15: DEC D, R178
  | rla  -- 17: RLA, R242
  | addHlDe  -- 19: ADD HL,DE, R191
  | ldAAtDe  -- 1A: LD A,(DE), R117
  | decDe  -- 1B: DEC DE, R193
  | incE  -- 1C: INC E, R176
  | decE  -- 1D: DEC E, R178
  | rra  -- 1F: RRA, R243
  | ldAtHlIncA  -- 22: LD (HL+),A, R128
  | incHl  -- 23: INC HL, R192
  | incH  -- 24: INC H, R176
  | decH  -- 25: DEC H, R178
  | daa  -- 27: DAA, R180
  | addHlHl  -- 29: ADD HL,HL, R191
  | ldAAtHlInc  -- 2A: LD A,(HL+), R126
  | decHl  -- 2B: DEC HL, R193
  | incL  -- 2C: INC L, R176
  | decL  -- 2D: DEC L, R178
  | cpl  -- 2F: CPL, R181
  | ldAtHlDecA  -- 32: LD (HL-),A, R129
  | incSp  -- 33: INC SP, R192
  | incAtHl  -- 34: INC (HL), R177
  | decAtHl  -- 35: DEC (HL), R179
  | scf  -- 37: SCF, R182
  | addHlSp  -- 39: ADD HL,SP, R191
  | ldAAtHlDec  -- 3A: LD A,(HL-), R127
  | decSp  -- 3B: DEC SP, R193
  | incA  -- 3C: INC A, R176
  | decA  -- 3D: DEC A, R178
  | ccf  -- 3F: CCF, R183
  | ldBB  -- 40: LD B,B, R111
  | ldBC  -- 41: LD B,C, R111
  | ldBD  -- 42: LD B,D, R111
  | ldBE  -- 43: LD B,E, R111
  | ldBH  -- 44: LD B,H, R111
  | ldBL  -- 45: LD B,L, R111
  | ldBAtHl  -- 46: LD B,(HL), R113
  | ldBA  -- 47: LD B,A, R111
  | ldCB  -- 48: LD C,B, R111
  | ldCC  -- 49: LD C,C, R111
  | ldCD  -- 4A: LD C,D, R111
  | ldCE  -- 4B: LD C,E, R111
  | ldCH  -- 4C: LD C,H, R111
  | ldCL  -- 4D: LD C,L, R111
  | ldCAtHl  -- 4E: LD C,(HL), R113
  | ldCA  -- 4F: LD C,A, R111
  | ldDB  -- 50: LD D,B, R111
  | ldDC  -- 51: LD D,C, R111
  | ldDD  -- 52: LD D,D, R111
  | ldDE  -- 53: LD D,E, R111
  | ldDH  -- 54: LD D,H, R111
  | ldDL  -- 55: LD D,L, R111
  | ldDAtHl  -- 56: LD D,(HL), R113
  | ldDA  -- 57: LD D,A, R111
  | ldEB  -- 58: LD E,B, R111
  | ldEC  -- 59: LD E,C, R111
  | ldED  -- 5A: LD E,D, R111
  | ldEE  -- 5B: LD E,E, R111
  | ldEH  -- 5C: LD E,H, R111
  | ldEL  -- 5D: LD E,L, R111
  | ldEAtHl  -- 5E: LD E,(HL), R113
  | ldEA  -- 5F: LD E,A, R111
  | ldHB  -- 60: LD H,B, R111
  | ldHC  -- 61: LD H,C, R111
  | ldHD  -- 62: LD H,D, R111
  | ldHE  -- 63: LD H,E, R111
  | ldHH  -- 64: LD H,H, R111
  | ldHL  -- 65: LD H,L, R111
  | ldHAtHl  -- 66: LD H,(HL), R113
  | ldHA  -- 67: LD H,A, R111
  | ldLB  -- 68: LD L,B, R111
  | ldLC  -- 69: LD L,C, R111
  | ldLD  -- 6A: LD L,D, R111
  | ldLE  -- 6B: LD L,E, R111
  | ldLH  -- 6C: LD L,H, R111
  | ldLL  -- 6D: LD L,L, R111
  | ldLAtHl  -- 6E: LD L,(HL), R113
  | ldLA  -- 6F: LD L,A, R111
  | ldAtHlB  -- 70: LD (HL),B, R114
  | ldAtHlC  -- 71: LD (HL),C, R114
  | ldAtHlD  -- 72: LD (HL),D, R114
  | ldAtHlE  -- 73: LD (HL),E, R114
  | ldAtHlH  -- 74: LD (HL),H, R114
  | ldAtHlL  -- 75: LD (HL),L, R114
  | halt  -- 76: HALT, R281
  | ldAtHlA  -- 77: LD (HL),A, R114
  | ldAB  -- 78: LD A,B, R111
  | ldAC  -- 79: LD A,C, R111
  | ldAD  -- 7A: LD A,D, R111
  | ldAE  -- 7B: LD A,E, R111
  | ldAH  -- 7C: LD A,H, R111
  | ldAL  -- 7D: LD A,L, R111
  | ldAAtHl  -- 7E: LD A,(HL), R113
  | ldAA  -- 7F: LD A,A, R111
  | addAB  -- 80: ADD A,B, R152
  | addAC  -- 81: ADD A,C, R152
  | addAD  -- 82: ADD A,D, R152
  | addAE  -- 83: ADD A,E, R152
  | addAH  -- 84: ADD A,H, R152
  | addAL  -- 85: ADD A,L, R152
  | addAAtHl  -- 86: ADD A,(HL), R153
  | addAA  -- 87: ADD A,A, R152
  | adcAB  -- 88: ADC A,B, R155
  | adcAC  -- 89: ADC A,C, R155
  | adcAD  -- 8A: ADC A,D, R155
  | adcAE  -- 8B: ADC A,E, R155
  | adcAH  -- 8C: ADC A,H, R155
  | adcAL  -- 8D: ADC A,L, R155
  | adcAAtHl  -- 8E: ADC A,(HL), R156
  | adcAA  -- 8F: ADC A,A, R155
  | subB  -- 90: SUB B, R158
  | subC  -- 91: SUB C, R158
  | subD  -- 92: SUB D, R158
  | subE  -- 93: SUB E, R158
  | subH  -- 94: SUB H, R158
  | subL  -- 95: SUB L, R158
  | subAtHl  -- 96: SUB (HL), R159
  | subA  -- 97: SUB A, R158
  | sbcAB  -- 98: SBC A,B, R161
  | sbcAC  -- 99: SBC A,C, R161
  | sbcAD  -- 9A: SBC A,D, R161
  | sbcAE  -- 9B: SBC A,E, R161
  | sbcAH  -- 9C: SBC A,H, R161
  | sbcAL  -- 9D: SBC A,L, R161
  | sbcAAtHl  -- 9E: SBC A,(HL), R162
  | sbcAA  -- 9F: SBC A,A, R161
  | andB  -- A0: AND B, R164
  | andC  -- A1: AND C, R164
  | andD  -- A2: AND D, R164
  | andE  -- A3: AND E, R164
  | andH  -- A4: AND H, R164
  | andL  -- A5: AND L, R164
  | andAtHl  -- A6: AND (HL), R165
  | andA  -- A7: AND A, R164
  | xorB  -- A8: XOR B, R167
  | xorC  -- A9: XOR C, R167
  | xorD  -- AA: XOR D, R167
  | xorE  -- AB: XOR E, R167
  | xorH  -- AC: XOR H, R167
  | xorL  -- AD: XOR L, R167
  | xorAtHl  -- AE: XOR (HL), R168
  | xorA  -- AF: XOR A, R167
  | orB  -- B0: OR B, R170
  | orC  -- B1: OR C, R170
  | orD  -- B2: OR D, R170
  | orE  -- B3: OR E, R170
  | orH  -- B4: OR H, R170
  | orL  -- B5: OR L, R170
  | orAtHl  -- B6: OR (HL), R171
  | orA  -- B7: OR A, R170
  | cpB  -- B8: CP B, R173
  | cpC  -- B9: CP C, R173
  | cpD  -- BA: CP D, R173
  | cpE  -- BB: CP E, R173
  | cpH  -- BC: CP H, R173
  | cpL  -- BD: CP L, R173
  | cpAtHl  -- BE: CP (HL), R174
  | cpA  -- BF: CP A, R173
  | retNz  -- C0: RET NZ, R210
  | popBc  -- C1: POP BC, R231
  | pushBc  -- C5: PUSH BC, R230
  | rst00  -- C7: RST 0x00, R212
  | retZ  -- C8: RET Z, R210
  | ret  -- C9: RET, R209
  | rst08  -- CF: RST 0x08, R212
  | retNc  -- D0: RET NC, R210
  | popDe  -- D1: POP DE, R231
  | illegalD3  -- D3: unused, R285
  | pushDe  -- D5: PUSH DE, R230
  | rst10  -- D7: RST 0x10, R212
  | retC  -- D8: RET C, R210
  | reti  -- D9: RETI, R211
  | illegalDB  -- DB: unused, R285
  | illegalDD  -- DD: unused, R285
  | rst18  -- DF: RST 0x18, R212
  | popHl  -- E1: POP HL, R231
  | ldhAtCA  -- E2: LDH (C),A, R123
  | illegalE3  -- E3: unused, R285
  | illegalE4  -- E4: unused, R285
  | pushHl  -- E5: PUSH HL, R230
  | rst20  -- E7: RST 0x20, R212
  | jpHl  -- E9: JP HL, R204
  | illegalEB  -- EB: unused, R285
  | illegalEC  -- EC: unused, R285
  | illegalED  -- ED: unused, R285
  | rst28  -- EF: RST 0x28, R212
  | popAf  -- F1: POP AF, R232
  | ldhAAtC  -- F2: LDH A,(C), R122
  | di  -- F3: DI, R283
  | illegalF4  -- F4: unused, R285
  | pushAf  -- F5: PUSH AF, R230
  | rst30  -- F7: RST 0x30, R212
  | ldSpHl  -- F9: LD SP,HL, R143
  | ei  -- FB: EI, R284
  | illegalFC  -- FC: unused, R285
  | illegalFD  -- FD: unused, R285
  | rst38  -- FF: RST 0x38, R212
  | rlcB  -- CB 00: RLC B, R251
  | rlcC  -- CB 01: RLC C, R251
  | rlcD  -- CB 02: RLC D, R251
  | rlcE  -- CB 03: RLC E, R251
  | rlcH  -- CB 04: RLC H, R251
  | rlcL  -- CB 05: RLC L, R251
  | rlcAtHl  -- CB 06: RLC (HL), R252
  | rlcA  -- CB 07: RLC A, R251
  | rrcB  -- CB 08: RRC B, R253
  | rrcC  -- CB 09: RRC C, R253
  | rrcD  -- CB 0A: RRC D, R253
  | rrcE  -- CB 0B: RRC E, R253
  | rrcH  -- CB 0C: RRC H, R253
  | rrcL  -- CB 0D: RRC L, R253
  | rrcAtHl  -- CB 0E: RRC (HL), R254
  | rrcA  -- CB 0F: RRC A, R253
  | rlB  -- CB 10: RL B, R255
  | rlC  -- CB 11: RL C, R255
  | rlD  -- CB 12: RL D, R255
  | rlE  -- CB 13: RL E, R255
  | rlH  -- CB 14: RL H, R255
  | rlL  -- CB 15: RL L, R255
  | rlAtHl  -- CB 16: RL (HL), R256
  | rlA  -- CB 17: RL A, R255
  | rrB  -- CB 18: RR B, R257
  | rrC  -- CB 19: RR C, R257
  | rrD  -- CB 1A: RR D, R257
  | rrE  -- CB 1B: RR E, R257
  | rrH  -- CB 1C: RR H, R257
  | rrL  -- CB 1D: RR L, R257
  | rrAtHl  -- CB 1E: RR (HL), R258
  | rrA  -- CB 1F: RR A, R257
  | slaB  -- CB 20: SLA B, R259
  | slaC  -- CB 21: SLA C, R259
  | slaD  -- CB 22: SLA D, R259
  | slaE  -- CB 23: SLA E, R259
  | slaH  -- CB 24: SLA H, R259
  | slaL  -- CB 25: SLA L, R259
  | slaAtHl  -- CB 26: SLA (HL), R260
  | slaA  -- CB 27: SLA A, R259
  | sraB  -- CB 28: SRA B, R261
  | sraC  -- CB 29: SRA C, R261
  | sraD  -- CB 2A: SRA D, R261
  | sraE  -- CB 2B: SRA E, R261
  | sraH  -- CB 2C: SRA H, R261
  | sraL  -- CB 2D: SRA L, R261
  | sraAtHl  -- CB 2E: SRA (HL), R262
  | sraA  -- CB 2F: SRA A, R261
  | swapB  -- CB 30: SWAP B, R263
  | swapC  -- CB 31: SWAP C, R263
  | swapD  -- CB 32: SWAP D, R263
  | swapE  -- CB 33: SWAP E, R263
  | swapH  -- CB 34: SWAP H, R263
  | swapL  -- CB 35: SWAP L, R263
  | swapAtHl  -- CB 36: SWAP (HL), R264
  | swapA  -- CB 37: SWAP A, R263
  | srlB  -- CB 38: SRL B, R265
  | srlC  -- CB 39: SRL C, R265
  | srlD  -- CB 3A: SRL D, R265
  | srlE  -- CB 3B: SRL E, R265
  | srlH  -- CB 3C: SRL H, R265
  | srlL  -- CB 3D: SRL L, R265
  | srlAtHl  -- CB 3E: SRL (HL), R266
  | srlA  -- CB 3F: SRL A, R265
  | bit0B  -- CB 40: BIT 0,B, R267
  | bit0C  -- CB 41: BIT 0,C, R267
  | bit0D  -- CB 42: BIT 0,D, R267
  | bit0E  -- CB 43: BIT 0,E, R267
  | bit0H  -- CB 44: BIT 0,H, R267
  | bit0L  -- CB 45: BIT 0,L, R267
  | bit0AtHl  -- CB 46: BIT 0,(HL), R268
  | bit0A  -- CB 47: BIT 0,A, R267
  | bit1B  -- CB 48: BIT 1,B, R267
  | bit1C  -- CB 49: BIT 1,C, R267
  | bit1D  -- CB 4A: BIT 1,D, R267
  | bit1E  -- CB 4B: BIT 1,E, R267
  | bit1H  -- CB 4C: BIT 1,H, R267
  | bit1L  -- CB 4D: BIT 1,L, R267
  | bit1AtHl  -- CB 4E: BIT 1,(HL), R268
  | bit1A  -- CB 4F: BIT 1,A, R267
  | bit2B  -- CB 50: BIT 2,B, R267
  | bit2C  -- CB 51: BIT 2,C, R267
  | bit2D  -- CB 52: BIT 2,D, R267
  | bit2E  -- CB 53: BIT 2,E, R267
  | bit2H  -- CB 54: BIT 2,H, R267
  | bit2L  -- CB 55: BIT 2,L, R267
  | bit2AtHl  -- CB 56: BIT 2,(HL), R268
  | bit2A  -- CB 57: BIT 2,A, R267
  | bit3B  -- CB 58: BIT 3,B, R267
  | bit3C  -- CB 59: BIT 3,C, R267
  | bit3D  -- CB 5A: BIT 3,D, R267
  | bit3E  -- CB 5B: BIT 3,E, R267
  | bit3H  -- CB 5C: BIT 3,H, R267
  | bit3L  -- CB 5D: BIT 3,L, R267
  | bit3AtHl  -- CB 5E: BIT 3,(HL), R268
  | bit3A  -- CB 5F: BIT 3,A, R267
  | bit4B  -- CB 60: BIT 4,B, R267
  | bit4C  -- CB 61: BIT 4,C, R267
  | bit4D  -- CB 62: BIT 4,D, R267
  | bit4E  -- CB 63: BIT 4,E, R267
  | bit4H  -- CB 64: BIT 4,H, R267
  | bit4L  -- CB 65: BIT 4,L, R267
  | bit4AtHl  -- CB 66: BIT 4,(HL), R268
  | bit4A  -- CB 67: BIT 4,A, R267
  | bit5B  -- CB 68: BIT 5,B, R267
  | bit5C  -- CB 69: BIT 5,C, R267
  | bit5D  -- CB 6A: BIT 5,D, R267
  | bit5E  -- CB 6B: BIT 5,E, R267
  | bit5H  -- CB 6C: BIT 5,H, R267
  | bit5L  -- CB 6D: BIT 5,L, R267
  | bit5AtHl  -- CB 6E: BIT 5,(HL), R268
  | bit5A  -- CB 6F: BIT 5,A, R267
  | bit6B  -- CB 70: BIT 6,B, R267
  | bit6C  -- CB 71: BIT 6,C, R267
  | bit6D  -- CB 72: BIT 6,D, R267
  | bit6E  -- CB 73: BIT 6,E, R267
  | bit6H  -- CB 74: BIT 6,H, R267
  | bit6L  -- CB 75: BIT 6,L, R267
  | bit6AtHl  -- CB 76: BIT 6,(HL), R268
  | bit6A  -- CB 77: BIT 6,A, R267
  | bit7B  -- CB 78: BIT 7,B, R267
  | bit7C  -- CB 79: BIT 7,C, R267
  | bit7D  -- CB 7A: BIT 7,D, R267
  | bit7E  -- CB 7B: BIT 7,E, R267
  | bit7H  -- CB 7C: BIT 7,H, R267
  | bit7L  -- CB 7D: BIT 7,L, R267
  | bit7AtHl  -- CB 7E: BIT 7,(HL), R268
  | bit7A  -- CB 7F: BIT 7,A, R267
  | res0B  -- CB 80: RES 0,B, R269
  | res0C  -- CB 81: RES 0,C, R269
  | res0D  -- CB 82: RES 0,D, R269
  | res0E  -- CB 83: RES 0,E, R269
  | res0H  -- CB 84: RES 0,H, R269
  | res0L  -- CB 85: RES 0,L, R269
  | res0AtHl  -- CB 86: RES 0,(HL), R270
  | res0A  -- CB 87: RES 0,A, R269
  | res1B  -- CB 88: RES 1,B, R269
  | res1C  -- CB 89: RES 1,C, R269
  | res1D  -- CB 8A: RES 1,D, R269
  | res1E  -- CB 8B: RES 1,E, R269
  | res1H  -- CB 8C: RES 1,H, R269
  | res1L  -- CB 8D: RES 1,L, R269
  | res1AtHl  -- CB 8E: RES 1,(HL), R270
  | res1A  -- CB 8F: RES 1,A, R269
  | res2B  -- CB 90: RES 2,B, R269
  | res2C  -- CB 91: RES 2,C, R269
  | res2D  -- CB 92: RES 2,D, R269
  | res2E  -- CB 93: RES 2,E, R269
  | res2H  -- CB 94: RES 2,H, R269
  | res2L  -- CB 95: RES 2,L, R269
  | res2AtHl  -- CB 96: RES 2,(HL), R270
  | res2A  -- CB 97: RES 2,A, R269
  | res3B  -- CB 98: RES 3,B, R269
  | res3C  -- CB 99: RES 3,C, R269
  | res3D  -- CB 9A: RES 3,D, R269
  | res3E  -- CB 9B: RES 3,E, R269
  | res3H  -- CB 9C: RES 3,H, R269
  | res3L  -- CB 9D: RES 3,L, R269
  | res3AtHl  -- CB 9E: RES 3,(HL), R270
  | res3A  -- CB 9F: RES 3,A, R269
  | res4B  -- CB A0: RES 4,B, R269
  | res4C  -- CB A1: RES 4,C, R269
  | res4D  -- CB A2: RES 4,D, R269
  | res4E  -- CB A3: RES 4,E, R269
  | res4H  -- CB A4: RES 4,H, R269
  | res4L  -- CB A5: RES 4,L, R269
  | res4AtHl  -- CB A6: RES 4,(HL), R270
  | res4A  -- CB A7: RES 4,A, R269
  | res5B  -- CB A8: RES 5,B, R269
  | res5C  -- CB A9: RES 5,C, R269
  | res5D  -- CB AA: RES 5,D, R269
  | res5E  -- CB AB: RES 5,E, R269
  | res5H  -- CB AC: RES 5,H, R269
  | res5L  -- CB AD: RES 5,L, R269
  | res5AtHl  -- CB AE: RES 5,(HL), R270
  | res5A  -- CB AF: RES 5,A, R269
  | res6B  -- CB B0: RES 6,B, R269
  | res6C  -- CB B1: RES 6,C, R269
  | res6D  -- CB B2: RES 6,D, R269
  | res6E  -- CB B3: RES 6,E, R269
  | res6H  -- CB B4: RES 6,H, R269
  | res6L  -- CB B5: RES 6,L, R269
  | res6AtHl  -- CB B6: RES 6,(HL), R270
  | res6A  -- CB B7: RES 6,A, R269
  | res7B  -- CB B8: RES 7,B, R269
  | res7C  -- CB B9: RES 7,C, R269
  | res7D  -- CB BA: RES 7,D, R269
  | res7E  -- CB BB: RES 7,E, R269
  | res7H  -- CB BC: RES 7,H, R269
  | res7L  -- CB BD: RES 7,L, R269
  | res7AtHl  -- CB BE: RES 7,(HL), R270
  | res7A  -- CB BF: RES 7,A, R269
  | set0B  -- CB C0: SET 0,B, R271
  | set0C  -- CB C1: SET 0,C, R271
  | set0D  -- CB C2: SET 0,D, R271
  | set0E  -- CB C3: SET 0,E, R271
  | set0H  -- CB C4: SET 0,H, R271
  | set0L  -- CB C5: SET 0,L, R271
  | set0AtHl  -- CB C6: SET 0,(HL), R272
  | set0A  -- CB C7: SET 0,A, R271
  | set1B  -- CB C8: SET 1,B, R271
  | set1C  -- CB C9: SET 1,C, R271
  | set1D  -- CB CA: SET 1,D, R271
  | set1E  -- CB CB: SET 1,E, R271
  | set1H  -- CB CC: SET 1,H, R271
  | set1L  -- CB CD: SET 1,L, R271
  | set1AtHl  -- CB CE: SET 1,(HL), R272
  | set1A  -- CB CF: SET 1,A, R271
  | set2B  -- CB D0: SET 2,B, R271
  | set2C  -- CB D1: SET 2,C, R271
  | set2D  -- CB D2: SET 2,D, R271
  | set2E  -- CB D3: SET 2,E, R271
  | set2H  -- CB D4: SET 2,H, R271
  | set2L  -- CB D5: SET 2,L, R271
  | set2AtHl  -- CB D6: SET 2,(HL), R272
  | set2A  -- CB D7: SET 2,A, R271
  | set3B  -- CB D8: SET 3,B, R271
  | set3C  -- CB D9: SET 3,C, R271
  | set3D  -- CB DA: SET 3,D, R271
  | set3E  -- CB DB: SET 3,E, R271
  | set3H  -- CB DC: SET 3,H, R271
  | set3L  -- CB DD: SET 3,L, R271
  | set3AtHl  -- CB DE: SET 3,(HL), R272
  | set3A  -- CB DF: SET 3,A, R271
  | set4B  -- CB E0: SET 4,B, R271
  | set4C  -- CB E1: SET 4,C, R271
  | set4D  -- CB E2: SET 4,D, R271
  | set4E  -- CB E3: SET 4,E, R271
  | set4H  -- CB E4: SET 4,H, R271
  | set4L  -- CB E5: SET 4,L, R271
  | set4AtHl  -- CB E6: SET 4,(HL), R272
  | set4A  -- CB E7: SET 4,A, R271
  | set5B  -- CB E8: SET 5,B, R271
  | set5C  -- CB E9: SET 5,C, R271
  | set5D  -- CB EA: SET 5,D, R271
  | set5E  -- CB EB: SET 5,E, R271
  | set5H  -- CB EC: SET 5,H, R271
  | set5L  -- CB ED: SET 5,L, R271
  | set5AtHl  -- CB EE: SET 5,(HL), R272
  | set5A  -- CB EF: SET 5,A, R271
  | set6B  -- CB F0: SET 6,B, R271
  | set6C  -- CB F1: SET 6,C, R271
  | set6D  -- CB F2: SET 6,D, R271
  | set6E  -- CB F3: SET 6,E, R271
  | set6H  -- CB F4: SET 6,H, R271
  | set6L  -- CB F5: SET 6,L, R271
  | set6AtHl  -- CB F6: SET 6,(HL), R272
  | set6A  -- CB F7: SET 6,A, R271
  | set7B  -- CB F8: SET 7,B, R271
  | set7C  -- CB F9: SET 7,C, R271
  | set7D  -- CB FA: SET 7,D, R271
  | set7E  -- CB FB: SET 7,E, R271
  | set7H  -- CB FC: SET 7,H, R271
  | set7L  -- CB FD: SET 7,L, R271
  | set7AtHl  -- CB FE: SET 7,(HL), R272
  | set7A  -- CB FF: SET 7,A, R271
deriving DecidableEq, Repr

end Sys2Proof
end

