-- ==== Sys2Proof/WellFormed.lean ====
section
/-! DEFINITION. Which terms of `Instr` are instructions of the machine. Register, pair, condition and bit operands are part of a
row, and operand bytes and words take every value (R98), so one check is left: the prefix. -/

namespace Sys2Proof

/-- "The byte 0xCB is never an instruction of its own: it always combines with the next byte" (R88). So the table's prefix row is
not an instruction beside the 256 extended rows: every byte pair CB xx is the instruction of its extended row. Every other row
is well formed with every operand. -/
def Instr.wellFormed : Instr → Bool
  | .prefixCb _ => false
  | _ => true

end Sys2Proof
end

