-- ==== Sys2Proof/Decode.lean ====
section
/-! DEFINITION. From bytes to instructions and back: the operand codes (R85 to R87), the rows of each form by their operand
fields, the decoder (R80, R83, R84, R95 to R99), the encoder, and the host's view of a table word. The decoder follows the FIELDS
of an opcode byte (R84) and the encoder the table's `match` column, row by row, so that each checks the other. -/

namespace Sys2Proof

/-! ## Bytes and words -/

/-- `{hi, lo}` of R7. -/
def joinBytes (hi lo : Byte) : Word :=
  hi ++ lo

/-- `v[15:8]` of R7. -/
def highByte (v : Word) : Byte :=
  v.extractLsb' 8 8

/-- `v[7:0]` of R7. -/
def lowByte (v : Word) : Byte :=
  v.extractLsb' 0 8

/-! ## Operand codes -/

/-- The code of a register (R85). -/
def Reg.code : Reg → Nat
  | .b => 0
  | .c => 1
  | .d => 2
  | .e => 3
  | .h => 4
  | .l => 5
  | .a => 7

/-- The code of an 8-bit operand (R85): 6 is the byte at HL. -/
def Operand8.code : Operand8 → Nat
  | .reg r => r.code
  | .atHl => 6

/-- The code of a pair in the `rr` row of R86. -/
def Pair.code : Pair → Nat
  | .bc => 0
  | .de => 1
  | .hl => 2
  | .sp => 3

/-- The code of a pair in the `qq` row of R86. -/
def StackPair.code : StackPair → Nat
  | .bc => 0
  | .de => 1
  | .hl => 2
  | .af => 3

/-- The code of a condition (R87). -/
def Cond.code : Cond → Nat
  | .nz => 0
  | .z => 1
  | .nc => 2
  | .c => 3

/-- The code of an ALU operation (R150). -/
def AluOp.code : AluOp → Nat
  | .add => 0
  | .adc => 1
  | .sub => 2
  | .sbc => 3
  | .and => 4
  | .xor => 5
  | .or => 6
  | .cp => 7

/-- The code of a rotate or shift (R96). -/
def ShiftOp.code : ShiftOp → Nat
  | .rlc => 0
  | .rrc => 1
  | .rl => 2
  | .rr => 3
  | .sla => 4
  | .sra => 5
  | .swap => 6
  | .srl => 7

/-- The opcode byte of an unused opcode (R97). -/
def UnusedOpcode.byte : UnusedOpcode → Byte
  | .xD3 => 0xD3#8
  | .xDB => 0xDB#8
  | .xDD => 0xDD#8
  | .xE3 => 0xE3#8
  | .xE4 => 0xE4#8
  | .xEB => 0xEB#8
  | .xEC => 0xEC#8
  | .xED => 0xED#8
  | .xF4 => 0xF4#8
  | .xFC => 0xFC#8
  | .xFD => 0xFD#8

/-- The operand a 3-bit code names (R85). -/
def operandOfCode : Nat → Operand8
  | 0 => .reg .b
  | 1 => .reg .c
  | 2 => .reg .d
  | 3 => .reg .e
  | 4 => .reg .h
  | 5 => .reg .l
  | 6 => .atHl
  | _ => .reg .a

/-- The pair a 2-bit code names in the `rr` row (R86). -/
def pairOfCode : Nat → Pair
  | 0 => .bc
  | 1 => .de
  | 2 => .hl
  | _ => .sp

/-- The pair a 2-bit code names in the `qq` row (R86). -/
def stackPairOfCode : Nat → StackPair
  | 0 => .bc
  | 1 => .de
  | 2 => .hl
  | _ => .af

/-- The condition a 2-bit code names (R87). -/
def condOfCode : Nat → Cond
  | 0 => .nz
  | 1 => .z
  | 2 => .nc
  | _ => .c

/-- The ALU operation a 3-bit code names (R150). -/
def aluOfCode : Nat → AluOp
  | 0 => .add
  | 1 => .adc
  | 2 => .sub
  | 3 => .sbc
  | 4 => .and
  | 5 => .xor
  | 6 => .or
  | _ => .cp

/-- The rotate or shift a 3-bit code names (R96). -/
def shiftOfCode : Nat → ShiftOp
  | 0 => .rlc
  | 1 => .rrc
  | 2 => .rl
  | 3 => .rr
  | 4 => .sla
  | 5 => .sra
  | 6 => .swap
  | _ => .srl

/-! ## The rows of each form, by their operand fields -/

/-- R111: the 49 rows LD r,r'. -/
def Instr.ldRegReg : Reg → Reg → Instr
  | .b, .b => .ldBB
  | .b, .c => .ldBC
  | .b, .d => .ldBD
  | .b, .e => .ldBE
  | .b, .h => .ldBH
  | .b, .l => .ldBL
  | .b, .a => .ldBA
  | .c, .b => .ldCB
  | .c, .c => .ldCC
  | .c, .d => .ldCD
  | .c, .e => .ldCE
  | .c, .h => .ldCH
  | .c, .l => .ldCL
  | .c, .a => .ldCA
  | .d, .b => .ldDB
  | .d, .c => .ldDC
  | .d, .d => .ldDD
  | .d, .e => .ldDE
  | .d, .h => .ldDH
  | .d, .l => .ldDL
  | .d, .a => .ldDA
  | .e, .b => .ldEB
  | .e, .c => .ldEC
  | .e, .d => .ldED
  | .e, .e => .ldEE
  | .e, .h => .ldEH
  | .e, .l => .ldEL
  | .e, .a => .ldEA
  | .h, .b => .ldHB
  | .h, .c => .ldHC
  | .h, .d => .ldHD
  | .h, .e => .ldHE
  | .h, .h => .ldHH
  | .h, .l => .ldHL
  | .h, .a => .ldHA
  | .l, .b => .ldLB
  | .l, .c => .ldLC
  | .l, .d => .ldLD
  | .l, .e => .ldLE
  | .l, .h => .ldLH
  | .l, .l => .ldLL
  | .l, .a => .ldLA
  | .a, .b => .ldAB
  | .a, .c => .ldAC
  | .a, .d => .ldAD
  | .a, .e => .ldAE
  | .a, .h => .ldAH
  | .a, .l => .ldAL
  | .a, .a => .ldAA

/-- R112: the seven rows LD r,d8. -/
def Instr.ldRegImm (x : Reg) (n : Byte) : Instr :=
  match x with
  | .b => .ldBD8 n
  | .c => .ldCD8 n
  | .d => .ldDD8 n
  | .e => .ldED8 n
  | .h => .ldHD8 n
  | .l => .ldLD8 n
  | .a => .ldAD8 n

/-- R113: the seven rows LD r,(HL). -/
def Instr.ldRegAtHl : Reg → Instr
  | .b => .ldBAtHl
  | .c => .ldCAtHl
  | .d => .ldDAtHl
  | .e => .ldEAtHl
  | .h => .ldHAtHl
  | .l => .ldLAtHl
  | .a => .ldAAtHl

/-- R114: the seven rows LD (HL),r. -/
def Instr.ldAtHlReg : Reg → Instr
  | .b => .ldAtHlB
  | .c => .ldAtHlC
  | .d => .ldAtHlD
  | .e => .ldAtHlE
  | .h => .ldAtHlH
  | .l => .ldAtHlL
  | .a => .ldAtHlA

/-- R141: the four rows LD rr,d16. -/
def Instr.ldPairImm (x : Pair) (v : Word) : Instr :=
  match x with
  | .bc => .ldBcD16 v
  | .de => .ldDeD16 v
  | .hl => .ldHlD16 v
  | .sp => .ldSpD16 v

/-- R150: the 56 rows of an ALU operation with a register. -/
def Instr.aluReg : AluOp → Reg → Instr
  | .add, .b => .addAB
  | .add, .c => .addAC
  | .add, .d => .addAD
  | .add, .e => .addAE
  | .add, .h => .addAH
  | .add, .l => .addAL
  | .add, .a => .addAA
  | .adc, .b => .adcAB
  | .adc, .c => .adcAC
  | .adc, .d => .adcAD
  | .adc, .e => .adcAE
  | .adc, .h => .adcAH
  | .adc, .l => .adcAL
  | .adc, .a => .adcAA
  | .sub, .b => .subB
  | .sub, .c => .subC
  | .sub, .d => .subD
  | .sub, .e => .subE
  | .sub, .h => .subH
  | .sub, .l => .subL
  | .sub, .a => .subA
  | .sbc, .b => .sbcAB
  | .sbc, .c => .sbcAC
  | .sbc, .d => .sbcAD
  | .sbc, .e => .sbcAE
  | .sbc, .h => .sbcAH
  | .sbc, .l => .sbcAL
  | .sbc, .a => .sbcAA
  | .and, .b => .andB
  | .and, .c => .andC
  | .and, .d => .andD
  | .and, .e => .andE
  | .and, .h => .andH
  | .and, .l => .andL
  | .and, .a => .andA
  | .xor, .b => .xorB
  | .xor, .c => .xorC
  | .xor, .d => .xorD
  | .xor, .e => .xorE
  | .xor, .h => .xorH
  | .xor, .l => .xorL
  | .xor, .a => .xorA
  | .or, .b => .orB
  | .or, .c => .orC
  | .or, .d => .orD
  | .or, .e => .orE
  | .or, .h => .orH
  | .or, .l => .orL
  | .or, .a => .orA
  | .cp, .b => .cpB
  | .cp, .c => .cpC
  | .cp, .d => .cpD
  | .cp, .e => .cpE
  | .cp, .h => .cpH
  | .cp, .l => .cpL
  | .cp, .a => .cpA

/-- R150: the eight rows of an ALU operation with the byte at HL. -/
def Instr.aluAtHl : AluOp → Instr
  | .add => .addAAtHl
  | .adc => .adcAAtHl
  | .sub => .subAtHl
  | .sbc => .sbcAAtHl
  | .and => .andAtHl
  | .xor => .xorAtHl
  | .or => .orAtHl
  | .cp => .cpAtHl

/-- R150: the eight rows of an ALU operation with an immediate. -/
def Instr.aluImm (x : AluOp) (n : Byte) : Instr :=
  match x with
  | .add => .addAD8 n
  | .adc => .adcAD8 n
  | .sub => .subD8 n
  | .sbc => .sbcAD8 n
  | .and => .andD8 n
  | .xor => .xorD8 n
  | .or => .orD8 n
  | .cp => .cpD8 n

/-- R176: the seven rows INC r. -/
def Instr.incReg : Reg → Instr
  | .b => .incB
  | .c => .incC
  | .d => .incD
  | .e => .incE
  | .h => .incH
  | .l => .incL
  | .a => .incA

/-- R178: the seven rows DEC r. -/
def Instr.decReg : Reg → Instr
  | .b => .decB
  | .c => .decC
  | .d => .decD
  | .e => .decE
  | .h => .decH
  | .l => .decL
  | .a => .decA

/-- R191: the four rows ADD HL,rr. -/
def Instr.addHlPair : Pair → Instr
  | .bc => .addHlBc
  | .de => .addHlDe
  | .hl => .addHlHl
  | .sp => .addHlSp

/-- R192: the four rows INC rr. -/
def Instr.incPair : Pair → Instr
  | .bc => .incBc
  | .de => .incDe
  | .hl => .incHl
  | .sp => .incSp

/-- R193: the four rows DEC rr. -/
def Instr.decPair : Pair → Instr
  | .bc => .decBc
  | .de => .decDe
  | .hl => .decHl
  | .sp => .decSp

/-- R203: the four rows JP cc,a16. -/
def Instr.jpCond (x : Cond) (a : Word) : Instr :=
  match x with
  | .nz => .jpNzA16 a
  | .z => .jpZA16 a
  | .nc => .jpNcA16 a
  | .c => .jpCA16 a

/-- R206: the four rows JR cc,e8. -/
def Instr.jrCond (x : Cond) (e : Byte) : Instr :=
  match x with
  | .nz => .jrNzE8 e
  | .z => .jrZE8 e
  | .nc => .jrNcE8 e
  | .c => .jrCE8 e

/-- R208: the four rows CALL cc,a16. -/
def Instr.callCond (x : Cond) (a : Word) : Instr :=
  match x with
  | .nz => .callNzA16 a
  | .z => .callZA16 a
  | .nc => .callNcA16 a
  | .c => .callCA16 a

/-- R210: the four rows RET cc. -/
def Instr.retCond : Cond → Instr
  | .nz => .retNz
  | .z => .retZ
  | .nc => .retNc
  | .c => .retC

/-- R212: the eight rows RST t, by the code t of the target 8 * t. -/
def Instr.rst (t : Fin 8) : Instr :=
  match t.val with
  | 0 => .rst00
  | 1 => .rst08
  | 2 => .rst10
  | 3 => .rst18
  | 4 => .rst20
  | 5 => .rst28
  | 6 => .rst30
  | _ => .rst38

/-- R230: the four rows PUSH qq. -/
def Instr.push : StackPair → Instr
  | .bc => .pushBc
  | .de => .pushDe
  | .hl => .pushHl
  | .af => .pushAf

/-- R231 and R232: the four rows POP qq. -/
def Instr.pop : StackPair → Instr
  | .bc => .popBc
  | .de => .popDe
  | .hl => .popHl
  | .af => .popAf

/-- R251 to R265: the 56 rows of a rotate or shift of a register. -/
def Instr.shiftReg : ShiftOp → Reg → Instr
  | .rlc, .b => .rlcB
  | .rlc, .c => .rlcC
  | .rlc, .d => .rlcD
  | .rlc, .e => .rlcE
  | .rlc, .h => .rlcH
  | .rlc, .l => .rlcL
  | .rlc, .a => .rlcA
  | .rrc, .b => .rrcB
  | .rrc, .c => .rrcC
  | .rrc, .d => .rrcD
  | .rrc, .e => .rrcE
  | .rrc, .h => .rrcH
  | .rrc, .l => .rrcL
  | .rrc, .a => .rrcA
  | .rl, .b => .rlB
  | .rl, .c => .rlC
  | .rl, .d => .rlD
  | .rl, .e => .rlE
  | .rl, .h => .rlH
  | .rl, .l => .rlL
  | .rl, .a => .rlA
  | .rr, .b => .rrB
  | .rr, .c => .rrC
  | .rr, .d => .rrD
  | .rr, .e => .rrE
  | .rr, .h => .rrH
  | .rr, .l => .rrL
  | .rr, .a => .rrA
  | .sla, .b => .slaB
  | .sla, .c => .slaC
  | .sla, .d => .slaD
  | .sla, .e => .slaE
  | .sla, .h => .slaH
  | .sla, .l => .slaL
  | .sla, .a => .slaA
  | .sra, .b => .sraB
  | .sra, .c => .sraC
  | .sra, .d => .sraD
  | .sra, .e => .sraE
  | .sra, .h => .sraH
  | .sra, .l => .sraL
  | .sra, .a => .sraA
  | .swap, .b => .swapB
  | .swap, .c => .swapC
  | .swap, .d => .swapD
  | .swap, .e => .swapE
  | .swap, .h => .swapH
  | .swap, .l => .swapL
  | .swap, .a => .swapA
  | .srl, .b => .srlB
  | .srl, .c => .srlC
  | .srl, .d => .srlD
  | .srl, .e => .srlE
  | .srl, .h => .srlH
  | .srl, .l => .srlL
  | .srl, .a => .srlA

/-- R252 to R266: the eight rows of a rotate or shift of the byte at HL. -/
def Instr.shiftAtHl : ShiftOp → Instr
  | .rlc => .rlcAtHl
  | .rrc => .rrcAtHl
  | .rl => .rlAtHl
  | .rr => .rrAtHl
  | .sla => .slaAtHl
  | .sra => .sraAtHl
  | .swap => .swapAtHl
  | .srl => .srlAtHl

/-- R267: the 56 rows BIT b,r. -/
def Instr.bitReg (n : Fin 8) (r : Reg) : Instr :=
  match n.val, r with
  | 0, .b => .bit0B
  | 0, .c => .bit0C
  | 0, .d => .bit0D
  | 0, .e => .bit0E
  | 0, .h => .bit0H
  | 0, .l => .bit0L
  | 0, .a => .bit0A
  | 1, .b => .bit1B
  | 1, .c => .bit1C
  | 1, .d => .bit1D
  | 1, .e => .bit1E
  | 1, .h => .bit1H
  | 1, .l => .bit1L
  | 1, .a => .bit1A
  | 2, .b => .bit2B
  | 2, .c => .bit2C
  | 2, .d => .bit2D
  | 2, .e => .bit2E
  | 2, .h => .bit2H
  | 2, .l => .bit2L
  | 2, .a => .bit2A
  | 3, .b => .bit3B
  | 3, .c => .bit3C
  | 3, .d => .bit3D
  | 3, .e => .bit3E
  | 3, .h => .bit3H
  | 3, .l => .bit3L
  | 3, .a => .bit3A
  | 4, .b => .bit4B
  | 4, .c => .bit4C
  | 4, .d => .bit4D
  | 4, .e => .bit4E
  | 4, .h => .bit4H
  | 4, .l => .bit4L
  | 4, .a => .bit4A
  | 5, .b => .bit5B
  | 5, .c => .bit5C
  | 5, .d => .bit5D
  | 5, .e => .bit5E
  | 5, .h => .bit5H
  | 5, .l => .bit5L
  | 5, .a => .bit5A
  | 6, .b => .bit6B
  | 6, .c => .bit6C
  | 6, .d => .bit6D
  | 6, .e => .bit6E
  | 6, .h => .bit6H
  | 6, .l => .bit6L
  | 6, .a => .bit6A
  | _, .b => .bit7B
  | _, .c => .bit7C
  | _, .d => .bit7D
  | _, .e => .bit7E
  | _, .h => .bit7H
  | _, .l => .bit7L
  | _, .a => .bit7A

/-- R268: the eight rows BIT b,(HL). -/
def Instr.bitAtHl (n : Fin 8) : Instr :=
  match n.val with
  | 0 => .bit0AtHl
  | 1 => .bit1AtHl
  | 2 => .bit2AtHl
  | 3 => .bit3AtHl
  | 4 => .bit4AtHl
  | 5 => .bit5AtHl
  | 6 => .bit6AtHl
  | _ => .bit7AtHl

/-- R269: the 56 rows RES b,r. -/
def Instr.resReg (n : Fin 8) (r : Reg) : Instr :=
  match n.val, r with
  | 0, .b => .res0B
  | 0, .c => .res0C
  | 0, .d => .res0D
  | 0, .e => .res0E
  | 0, .h => .res0H
  | 0, .l => .res0L
  | 0, .a => .res0A
  | 1, .b => .res1B
  | 1, .c => .res1C
  | 1, .d => .res1D
  | 1, .e => .res1E
  | 1, .h => .res1H
  | 1, .l => .res1L
  | 1, .a => .res1A
  | 2, .b => .res2B
  | 2, .c => .res2C
  | 2, .d => .res2D
  | 2, .e => .res2E
  | 2, .h => .res2H
  | 2, .l => .res2L
  | 2, .a => .res2A
  | 3, .b => .res3B
  | 3, .c => .res3C
  | 3, .d => .res3D
  | 3, .e => .res3E
  | 3, .h => .res3H
  | 3, .l => .res3L
  | 3, .a => .res3A
  | 4, .b => .res4B
  | 4, .c => .res4C
  | 4, .d => .res4D
  | 4, .e => .res4E
  | 4, .h => .res4H
  | 4, .l => .res4L
  | 4, .a => .res4A
  | 5, .b => .res5B
  | 5, .c => .res5C
  | 5, .d => .res5D
  | 5, .e => .res5E
  | 5, .h => .res5H
  | 5, .l => .res5L
  | 5, .a => .res5A
  | 6, .b => .res6B
  | 6, .c => .res6C
  | 6, .d => .res6D
  | 6, .e => .res6E
  | 6, .h => .res6H
  | 6, .l => .res6L
  | 6, .a => .res6A
  | _, .b => .res7B
  | _, .c => .res7C
  | _, .d => .res7D
  | _, .e => .res7E
  | _, .h => .res7H
  | _, .l => .res7L
  | _, .a => .res7A

/-- R270: the eight rows RES b,(HL). -/
def Instr.resAtHl (n : Fin 8) : Instr :=
  match n.val with
  | 0 => .res0AtHl
  | 1 => .res1AtHl
  | 2 => .res2AtHl
  | 3 => .res3AtHl
  | 4 => .res4AtHl
  | 5 => .res5AtHl
  | 6 => .res6AtHl
  | _ => .res7AtHl

/-- R271: the 56 rows SET b,r. -/
def Instr.setReg (n : Fin 8) (r : Reg) : Instr :=
  match n.val, r with
  | 0, .b => .set0B
  | 0, .c => .set0C
  | 0, .d => .set0D
  | 0, .e => .set0E
  | 0, .h => .set0H
  | 0, .l => .set0L
  | 0, .a => .set0A
  | 1, .b => .set1B
  | 1, .c => .set1C
  | 1, .d => .set1D
  | 1, .e => .set1E
  | 1, .h => .set1H
  | 1, .l => .set1L
  | 1, .a => .set1A
  | 2, .b => .set2B
  | 2, .c => .set2C
  | 2, .d => .set2D
  | 2, .e => .set2E
  | 2, .h => .set2H
  | 2, .l => .set2L
  | 2, .a => .set2A
  | 3, .b => .set3B
  | 3, .c => .set3C
  | 3, .d => .set3D
  | 3, .e => .set3E
  | 3, .h => .set3H
  | 3, .l => .set3L
  | 3, .a => .set3A
  | 4, .b => .set4B
  | 4, .c => .set4C
  | 4, .d => .set4D
  | 4, .e => .set4E
  | 4, .h => .set4H
  | 4, .l => .set4L
  | 4, .a => .set4A
  | 5, .b => .set5B
  | 5, .c => .set5C
  | 5, .d => .set5D
  | 5, .e => .set5E
  | 5, .h => .set5H
  | 5, .l => .set5L
  | 5, .a => .set5A
  | 6, .b => .set6B
  | 6, .c => .set6C
  | 6, .d => .set6D
  | 6, .e => .set6E
  | 6, .h => .set6H
  | 6, .l => .set6L
  | 6, .a => .set6A
  | _, .b => .set7B
  | _, .c => .set7C
  | _, .d => .set7D
  | _, .e => .set7E
  | _, .h => .set7H
  | _, .l => .set7L
  | _, .a => .set7A

/-- R272: the eight rows SET b,(HL). -/
def Instr.setAtHl (n : Fin 8) : Instr :=
  match n.val with
  | 0 => .set0AtHl
  | 1 => .set1AtHl
  | 2 => .set2AtHl
  | 3 => .set3AtHl
  | 4 => .set4AtHl
  | 5 => .set5AtHl
  | 6 => .set6AtHl
  | _ => .set7AtHl

/-- R285: the eleven unused rows. -/
def Instr.unused : UnusedOpcode → Instr
  | .xD3 => .illegalD3
  | .xDB => .illegalDB
  | .xDD => .illegalDD
  | .xE3 => .illegalE3
  | .xE4 => .illegalE4
  | .xEB => .illegalEB
  | .xEC => .illegalEC
  | .xED => .illegalED
  | .xF4 => .illegalF4
  | .xFC => .illegalFC
  | .xFD => .illegalFD

/-! ## The rows by an operand code that may name the byte at HL -/

/-- The row `01dddsss` (R111, R113, R114). Code 6 twice is HALT (R281). -/
def Instr.ld8 : Operand8 → Operand8 → Instr
  | .reg dst, .reg src => .ldRegReg dst src
  | .reg dst, .atHl => .ldRegAtHl dst
  | .atHl, .reg src => .ldAtHlReg src
  | .atHl, .atHl => .halt

/-- The row `00ddd110 nnnnnnnn` (R112, R115). -/
def Instr.ldImm (d : Operand8) (n : Byte) : Instr :=
  match d with
  | .reg r => .ldRegImm r n
  | .atHl => .ldAtHlD8 n

/-- The row `00ddd100` (R176, R177). -/
def Instr.inc8 : Operand8 → Instr
  | .reg r => .incReg r
  | .atHl => .incAtHl

/-- The row `00ddd101` (R178, R179). -/
def Instr.dec8 : Operand8 → Instr
  | .reg r => .decReg r
  | .atHl => .decAtHl

/-- The row `10aaasss` (R150). -/
def Instr.alu8 (op : AluOp) : Operand8 → Instr
  | .reg r => .aluReg op r
  | .atHl => .aluAtHl op

/-- The extended row `00yyysss` (R250). -/
def Instr.shift8 (op : ShiftOp) : Operand8 → Instr
  | .reg r => .shiftReg op r
  | .atHl => .shiftAtHl op

/-- The extended row `01bbbsss` (R250). -/
def Instr.bit8 (n : Fin 8) : Operand8 → Instr
  | .reg r => .bitReg n r
  | .atHl => .bitAtHl n

/-- The extended row `10bbbsss` (R250). -/
def Instr.res8 (n : Fin 8) : Operand8 → Instr
  | .reg r => .resReg n r
  | .atHl => .resAtHl n

/-- The extended row `11bbbsss` (R250). -/
def Instr.set8 (n : Fin 8) : Operand8 → Instr
  | .reg r => .setReg n r
  | .atHl => .setAtHl n

/-! ## Decoding -/

/-- `x = op[7:6]` (R84). -/
def fieldX (op : Byte) : Nat :=
  op.toNat / 64

/-- `y = op[5:3]` (R84). -/
def fieldY (op : Byte) : Nat :=
  op.toNat / 8 % 8

/-- `z = op[2:0]` (R84). -/
def fieldZ (op : Byte) : Nat :=
  op.toNat % 8

/-- `p = op[5:4]` (R84). -/
def fieldP (op : Byte) : Nat :=
  op.toNat / 16 % 4

/-- `q = op[3]` (R84). -/
def fieldQ (op : Byte) : Nat :=
  op.toNat / 8 % 2

/-- The condition field `cc = op[4:3]` (R87). -/
def fieldCc (op : Byte) : Nat :=
  op.toNat / 8 % 4

/-- The bit number or restart code `y` as an index. -/
def fieldBit (op : Byte) : Fin 8 :=
  ⟨op.toNat / 8 % 8, Nat.mod_lt _ (by decide)⟩

/-- What a base opcode says: an instruction of one byte, one that fetches an operand byte (R89, R91), one that fetches an operand
word (R90), or the prefix (R88). -/
inductive BaseRow where
  | bare (i : Instr)
  | imm8 (k : Byte → Instr)
  | imm16 (k : Word → Instr)
  | extended

/-- The base rows 0x00 to 0x3F (R95). -/
def decodeX0 (op : Byte) : BaseRow :=
  match fieldZ op with
  | 0 =>
    match fieldY op with
    | 0 => .bare .nop
    | 1 => .imm16 .ldAtA16Sp
    | 2 => .imm8 .stop
    | 3 => .imm8 .jrE8
    | _ => .imm8 (.jrCond (condOfCode (fieldCc op)))
  | 1 =>
    match fieldQ op with
    | 0 => .imm16 (.ldPairImm (pairOfCode (fieldP op)))
    | _ => .bare (.addHlPair (pairOfCode (fieldP op)))
  | 2 =>
    match fieldY op with
    | 0 => .bare .ldAtBcA
    | 1 => .bare .ldAAtBc
    | 2 => .bare .ldAtDeA
    | 3 => .bare .ldAAtDe
    | 4 => .bare .ldAtHlIncA
    | 5 => .bare .ldAAtHlInc
    | 6 => .bare .ldAtHlDecA
    | _ => .bare .ldAAtHlDec
  | 3 =>
    match fieldQ op with
    | 0 => .bare (.incPair (pairOfCode (fieldP op)))
    | _ => .bare (.decPair (pairOfCode (fieldP op)))
  | 4 => .bare (.inc8 (operandOfCode (fieldY op)))
  | 5 => .bare (.dec8 (operandOfCode (fieldY op)))
  | 6 => .imm8 (.ldImm (operandOfCode (fieldY op)))
  | _ =>
    match fieldY op with
    | 0 => .bare .rlca
    | 1 => .bare .rrca
    | 2 => .bare .rla
    | 3 => .bare .rra
    | 4 => .bare .daa
    | 5 => .bare .cpl
    | 6 => .bare .scf
    | _ => .bare .ccf

/-- The base rows 0xC0 to 0xFF (R95). -/
def decodeX3 (op : Byte) : BaseRow :=
  match fieldZ op with
  | 0 =>
    match fieldY op with
    | 4 => .imm8 .ldhAtA8A
    | 5 => .imm8 .addSpE8
    | 6 => .imm8 .ldhAAtA8
    | 7 => .imm8 .ldHlSpE8
    | _ => .bare (.retCond (condOfCode (fieldCc op)))
  | 1 =>
    match fieldY op with
    | 1 => .bare .ret
    | 3 => .bare .reti
    | 5 => .bare .jpHl
    | 7 => .bare .ldSpHl
    | _ => .bare (.pop (stackPairOfCode (fieldP op)))
  | 2 =>
    match fieldY op with
    | 4 => .bare .ldhAtCA
    | 5 => .imm16 .ldAtA16A
    | 6 => .bare .ldhAAtC
    | 7 => .imm16 .ldAAtA16
    | _ => .imm16 (.jpCond (condOfCode (fieldCc op)))
  | 3 =>
    match fieldY op with
    | 0 => .imm16 .jpA16
    | 1 => .extended
    | 2 => .bare (.unused .xD3)
    | 3 => .bare (.unused .xDB)
    | 4 => .bare (.unused .xE3)
    | 5 => .bare (.unused .xEB)
    | 6 => .bare .di
    | _ => .bare .ei
  | 4 =>
    match fieldY op with
    | 4 => .bare (.unused .xE4)
    | 5 => .bare (.unused .xEC)
    | 6 => .bare (.unused .xF4)
    | 7 => .bare (.unused .xFC)
    | _ => .imm16 (.callCond (condOfCode (fieldCc op)))
  | 5 =>
    match fieldY op with
    | 1 => .imm16 .callA16
    | 3 => .bare (.unused .xDD)
    | 5 => .bare (.unused .xED)
    | 7 => .bare (.unused .xFD)
    | _ => .bare (.push (stackPairOfCode (fieldP op)))
  | 6 => .imm8 (.aluImm (aluOfCode (fieldY op)))
  | _ => .bare (.rst (fieldBit op))

/-- The base table (R95), by the fields of R84. -/
def decodeBase (op : Byte) : BaseRow :=
  match fieldX op with
  | 0 => decodeX0 op
  | 1 => .bare (.ld8 (operandOfCode (fieldY op)) (operandOfCode (fieldZ op)))
  | 2 => .bare (.alu8 (aluOfCode (fieldY op)) (operandOfCode (fieldZ op)))
  | _ => decodeX3 op

/-- The extended table (R96), by the fields of R84. -/
def decodeExtended (op2 : Byte) : Instr :=
  match fieldX op2 with
  | 0 => .shift8 (shiftOfCode (fieldY op2)) (operandOfCode (fieldZ op2))
  | 1 => .bit8 (fieldBit op2) (operandOfCode (fieldZ op2))
  | 2 => .res8 (fieldBit op2) (operandOfCode (fieldZ op2))
  | _ => .set8 (fieldBit op2) (operandOfCode (fieldZ op2))

/-- The number of bytes of an instruction, known "from the first byte alone" (R80, R99). -/
def instrLength (op : Byte) : Nat :=
  match decodeBase op with
  | .bare _ => 1
  | .imm8 _ => 2
  | .imm16 _ => 3
  | .extended => 2

/-- Why a list of bytes holds no instruction at its head. Every opcode byte decodes (R99), so only the end of the list can stop
the decoder; a fetch never does, since it always supplies the bytes its opcode asks for. -/
inductive DecodeError where
  /-- The list is empty. -/
  | noOpcode
  /-- The list ends before the operand bytes of its opcode. -/
  | missingOperand (op : Byte)
  /-- The list ends after the prefix 0xCB. -/
  | missingExtendedOpcode
deriving DecidableEq, Repr

/-- The instruction at the head of a list of bytes, and the bytes after it (R80, R83). A 16-bit operand has its low byte first
(R90). -/
def decode : List Byte → Except DecodeError (Instr × List Byte)
  | [] => .error .noOpcode
  | op :: rest =>
    match decodeBase op with
    | .bare i => .ok (i, rest)
    | .imm8 k =>
      match rest with
      | n :: rest' => .ok (k n, rest')
      | [] => .error (.missingOperand op)
    | .imm16 k =>
      match rest with
      | lo :: hi :: rest' => .ok (k (joinBytes hi lo), rest')
      | _ => .error (.missingOperand op)
    | .extended =>
      match rest with
      | op2 :: rest' => .ok (decodeExtended op2, rest')
      | [] => .error .missingExtendedOpcode

/-! ## Encoding -/

/-- The bytes of an instruction: the `match` column of spec/opcode_table.json, row by row, then the operand bytes, low byte first
(R90, R100). -/
def encode : Instr → List Byte
  | .ldBcD16 v => [0x01#8, lowByte v, highByte v]
  | .ldBD8 n => [0x06#8, n]
  | .ldAtA16Sp a => [0x08#8, lowByte a, highByte a]
  | .ldCD8 n => [0x0E#8, n]
  | .stop x => [0x10#8, x]
  | .ldDeD16 v => [0x11#8, lowByte v, highByte v]
  | .ldDD8 n => [0x16#8, n]
  | .jrE8 e => [0x18#8, e]
  | .ldED8 n => [0x1E#8, n]
  | .jrNzE8 e => [0x20#8, e]
  | .ldHlD16 v => [0x21#8, lowByte v, highByte v]
  | .ldHD8 n => [0x26#8, n]
  | .jrZE8 e => [0x28#8, e]
  | .ldLD8 n => [0x2E#8, n]
  | .jrNcE8 e => [0x30#8, e]
  | .ldSpD16 v => [0x31#8, lowByte v, highByte v]
  | .ldAtHlD8 n => [0x36#8, n]
  | .jrCE8 e => [0x38#8, e]
  | .ldAD8 n => [0x3E#8, n]
  | .jpNzA16 a => [0xC2#8, lowByte a, highByte a]
  | .jpA16 a => [0xC3#8, lowByte a, highByte a]
  | .callNzA16 a => [0xC4#8, lowByte a, highByte a]
  | .addAD8 n => [0xC6#8, n]
  | .jpZA16 a => [0xCA#8, lowByte a, highByte a]
  | .prefixCb op2 => [0xCB#8, op2]
  | .callZA16 a => [0xCC#8, lowByte a, highByte a]
  | .callA16 a => [0xCD#8, lowByte a, highByte a]
  | .adcAD8 n => [0xCE#8, n]
  | .jpNcA16 a => [0xD2#8, lowByte a, highByte a]
  | .callNcA16 a => [0xD4#8, lowByte a, highByte a]
  | .subD8 n => [0xD6#8, n]
  | .jpCA16 a => [0xDA#8, lowByte a, highByte a]
  | .callCA16 a => [0xDC#8, lowByte a, highByte a]
  | .sbcAD8 n => [0xDE#8, n]
  | .ldhAtA8A n => [0xE0#8, n]
  | .andD8 n => [0xE6#8, n]
  | .addSpE8 e => [0xE8#8, e]
  | .ldAtA16A a => [0xEA#8, lowByte a, highByte a]
  | .xorD8 n => [0xEE#8, n]
  | .ldhAAtA8 n => [0xF0#8, n]
  | .orD8 n => [0xF6#8, n]
  | .ldHlSpE8 e => [0xF8#8, e]
  | .ldAAtA16 a => [0xFA#8, lowByte a, highByte a]
  | .cpD8 n => [0xFE#8, n]
  | .nop => [0x00#8]
  | .ldAtBcA => [0x02#8]
  | .incBc => [0x03#8]
  | .incB => [0x04#8]
  | .decB => [0x05#8]
  | .rlca => [0x07#8]
  | .addHlBc => [0x09#8]
  | .ldAAtBc => [0x0A#8]
  | .decBc => [0x0B#8]
  | .incC => [0x0C#8]
  | .decC => [0x0D#8]
  | .rrca => [0x0F#8]
  | .ldAtDeA => [0x12#8]
  | .incDe => [0x13#8]
  | .incD => [0x14#8]
  | .decD => [0x15#8]
  | .rla => [0x17#8]
  | .addHlDe => [0x19#8]
  | .ldAAtDe => [0x1A#8]
  | .decDe => [0x1B#8]
  | .incE => [0x1C#8]
  | .decE => [0x1D#8]
  | .rra => [0x1F#8]
  | .ldAtHlIncA => [0x22#8]
  | .incHl => [0x23#8]
  | .incH => [0x24#8]
  | .decH => [0x25#8]
  | .daa => [0x27#8]
  | .addHlHl => [0x29#8]
  | .ldAAtHlInc => [0x2A#8]
  | .decHl => [0x2B#8]
  | .incL => [0x2C#8]
  | .decL => [0x2D#8]
  | .cpl => [0x2F#8]
  | .ldAtHlDecA => [0x32#8]
  | .incSp => [0x33#8]
  | .incAtHl => [0x34#8]
  | .decAtHl => [0x35#8]
  | .scf => [0x37#8]
  | .addHlSp => [0x39#8]
  | .ldAAtHlDec => [0x3A#8]
  | .decSp => [0x3B#8]
  | .incA => [0x3C#8]
  | .decA => [0x3D#8]
  | .ccf => [0x3F#8]
  | .ldBB => [0x40#8]
  | .ldBC => [0x41#8]
  | .ldBD => [0x42#8]
  | .ldBE => [0x43#8]
  | .ldBH => [0x44#8]
  | .ldBL => [0x45#8]
  | .ldBAtHl => [0x46#8]
  | .ldBA => [0x47#8]
  | .ldCB => [0x48#8]
  | .ldCC => [0x49#8]
  | .ldCD => [0x4A#8]
  | .ldCE => [0x4B#8]
  | .ldCH => [0x4C#8]
  | .ldCL => [0x4D#8]
  | .ldCAtHl => [0x4E#8]
  | .ldCA => [0x4F#8]
  | .ldDB => [0x50#8]
  | .ldDC => [0x51#8]
  | .ldDD => [0x52#8]
  | .ldDE => [0x53#8]
  | .ldDH => [0x54#8]
  | .ldDL => [0x55#8]
  | .ldDAtHl => [0x56#8]
  | .ldDA => [0x57#8]
  | .ldEB => [0x58#8]
  | .ldEC => [0x59#8]
  | .ldED => [0x5A#8]
  | .ldEE => [0x5B#8]
  | .ldEH => [0x5C#8]
  | .ldEL => [0x5D#8]
  | .ldEAtHl => [0x5E#8]
  | .ldEA => [0x5F#8]
  | .ldHB => [0x60#8]
  | .ldHC => [0x61#8]
  | .ldHD => [0x62#8]
  | .ldHE => [0x63#8]
  | .ldHH => [0x64#8]
  | .ldHL => [0x65#8]
  | .ldHAtHl => [0x66#8]
  | .ldHA => [0x67#8]
  | .ldLB => [0x68#8]
  | .ldLC => [0x69#8]
  | .ldLD => [0x6A#8]
  | .ldLE => [0x6B#8]
  | .ldLH => [0x6C#8]
  | .ldLL => [0x6D#8]
  | .ldLAtHl => [0x6E#8]
  | .ldLA => [0x6F#8]
  | .ldAtHlB => [0x70#8]
  | .ldAtHlC => [0x71#8]
  | .ldAtHlD => [0x72#8]
  | .ldAtHlE => [0x73#8]
  | .ldAtHlH => [0x74#8]
  | .ldAtHlL => [0x75#8]
  | .halt => [0x76#8]
  | .ldAtHlA => [0x77#8]
  | .ldAB => [0x78#8]
  | .ldAC => [0x79#8]
  | .ldAD => [0x7A#8]
  | .ldAE => [0x7B#8]
  | .ldAH => [0x7C#8]
  | .ldAL => [0x7D#8]
  | .ldAAtHl => [0x7E#8]
  | .ldAA => [0x7F#8]
  | .addAB => [0x80#8]
  | .addAC => [0x81#8]
  | .addAD => [0x82#8]
  | .addAE => [0x83#8]
  | .addAH => [0x84#8]
  | .addAL => [0x85#8]
  | .addAAtHl => [0x86#8]
  | .addAA => [0x87#8]
  | .adcAB => [0x88#8]
  | .adcAC => [0x89#8]
  | .adcAD => [0x8A#8]
  | .adcAE => [0x8B#8]
  | .adcAH => [0x8C#8]
  | .adcAL => [0x8D#8]
  | .adcAAtHl => [0x8E#8]
  | .adcAA => [0x8F#8]
  | .subB => [0x90#8]
  | .subC => [0x91#8]
  | .subD => [0x92#8]
  | .subE => [0x93#8]
  | .subH => [0x94#8]
  | .subL => [0x95#8]
  | .subAtHl => [0x96#8]
  | .subA => [0x97#8]
  | .sbcAB => [0x98#8]
  | .sbcAC => [0x99#8]
  | .sbcAD => [0x9A#8]
  | .sbcAE => [0x9B#8]
  | .sbcAH => [0x9C#8]
  | .sbcAL => [0x9D#8]
  | .sbcAAtHl => [0x9E#8]
  | .sbcAA => [0x9F#8]
  | .andB => [0xA0#8]
  | .andC => [0xA1#8]
  | .andD => [0xA2#8]
  | .andE => [0xA3#8]
  | .andH => [0xA4#8]
  | .andL => [0xA5#8]
  | .andAtHl => [0xA6#8]
  | .andA => [0xA7#8]
  | .xorB => [0xA8#8]
  | .xorC => [0xA9#8]
  | .xorD => [0xAA#8]
  | .xorE => [0xAB#8]
  | .xorH => [0xAC#8]
  | .xorL => [0xAD#8]
  | .xorAtHl => [0xAE#8]
  | .xorA => [0xAF#8]
  | .orB => [0xB0#8]
  | .orC => [0xB1#8]
  | .orD => [0xB2#8]
  | .orE => [0xB3#8]
  | .orH => [0xB4#8]
  | .orL => [0xB5#8]
  | .orAtHl => [0xB6#8]
  | .orA => [0xB7#8]
  | .cpB => [0xB8#8]
  | .cpC => [0xB9#8]
  | .cpD => [0xBA#8]
  | .cpE => [0xBB#8]
  | .cpH => [0xBC#8]
  | .cpL => [0xBD#8]
  | .cpAtHl => [0xBE#8]
  | .cpA => [0xBF#8]
  | .retNz => [0xC0#8]
  | .popBc => [0xC1#8]
  | .pushBc => [0xC5#8]
  | .rst00 => [0xC7#8]
  | .retZ => [0xC8#8]
  | .ret => [0xC9#8]
  | .rst08 => [0xCF#8]
  | .retNc => [0xD0#8]
  | .popDe => [0xD1#8]
  | .illegalD3 => [0xD3#8]
  | .pushDe => [0xD5#8]
  | .rst10 => [0xD7#8]
  | .retC => [0xD8#8]
  | .reti => [0xD9#8]
  | .illegalDB => [0xDB#8]
  | .illegalDD => [0xDD#8]
  | .rst18 => [0xDF#8]
  | .popHl => [0xE1#8]
  | .ldhAtCA => [0xE2#8]
  | .illegalE3 => [0xE3#8]
  | .illegalE4 => [0xE4#8]
  | .pushHl => [0xE5#8]
  | .rst20 => [0xE7#8]
  | .jpHl => [0xE9#8]
  | .illegalEB => [0xEB#8]
  | .illegalEC => [0xEC#8]
  | .illegalED => [0xED#8]
  | .rst28 => [0xEF#8]
  | .popAf => [0xF1#8]
  | .ldhAAtC => [0xF2#8]
  | .di => [0xF3#8]
  | .illegalF4 => [0xF4#8]
  | .pushAf => [0xF5#8]
  | .rst30 => [0xF7#8]
  | .ldSpHl => [0xF9#8]
  | .ei => [0xFB#8]
  | .illegalFC => [0xFC#8]
  | .illegalFD => [0xFD#8]
  | .rst38 => [0xFF#8]
  | .rlcB => [0xCB#8, 0x00#8]
  | .rlcC => [0xCB#8, 0x01#8]
  | .rlcD => [0xCB#8, 0x02#8]
  | .rlcE => [0xCB#8, 0x03#8]
  | .rlcH => [0xCB#8, 0x04#8]
  | .rlcL => [0xCB#8, 0x05#8]
  | .rlcAtHl => [0xCB#8, 0x06#8]
  | .rlcA => [0xCB#8, 0x07#8]
  | .rrcB => [0xCB#8, 0x08#8]
  | .rrcC => [0xCB#8, 0x09#8]
  | .rrcD => [0xCB#8, 0x0A#8]
  | .rrcE => [0xCB#8, 0x0B#8]
  | .rrcH => [0xCB#8, 0x0C#8]
  | .rrcL => [0xCB#8, 0x0D#8]
  | .rrcAtHl => [0xCB#8, 0x0E#8]
  | .rrcA => [0xCB#8, 0x0F#8]
  | .rlB => [0xCB#8, 0x10#8]
  | .rlC => [0xCB#8, 0x11#8]
  | .rlD => [0xCB#8, 0x12#8]
  | .rlE => [0xCB#8, 0x13#8]
  | .rlH => [0xCB#8, 0x14#8]
  | .rlL => [0xCB#8, 0x15#8]
  | .rlAtHl => [0xCB#8, 0x16#8]
  | .rlA => [0xCB#8, 0x17#8]
  | .rrB => [0xCB#8, 0x18#8]
  | .rrC => [0xCB#8, 0x19#8]
  | .rrD => [0xCB#8, 0x1A#8]
  | .rrE => [0xCB#8, 0x1B#8]
  | .rrH => [0xCB#8, 0x1C#8]
  | .rrL => [0xCB#8, 0x1D#8]
  | .rrAtHl => [0xCB#8, 0x1E#8]
  | .rrA => [0xCB#8, 0x1F#8]
  | .slaB => [0xCB#8, 0x20#8]
  | .slaC => [0xCB#8, 0x21#8]
  | .slaD => [0xCB#8, 0x22#8]
  | .slaE => [0xCB#8, 0x23#8]
  | .slaH => [0xCB#8, 0x24#8]
  | .slaL => [0xCB#8, 0x25#8]
  | .slaAtHl => [0xCB#8, 0x26#8]
  | .slaA => [0xCB#8, 0x27#8]
  | .sraB => [0xCB#8, 0x28#8]
  | .sraC => [0xCB#8, 0x29#8]
  | .sraD => [0xCB#8, 0x2A#8]
  | .sraE => [0xCB#8, 0x2B#8]
  | .sraH => [0xCB#8, 0x2C#8]
  | .sraL => [0xCB#8, 0x2D#8]
  | .sraAtHl => [0xCB#8, 0x2E#8]
  | .sraA => [0xCB#8, 0x2F#8]
  | .swapB => [0xCB#8, 0x30#8]
  | .swapC => [0xCB#8, 0x31#8]
  | .swapD => [0xCB#8, 0x32#8]
  | .swapE => [0xCB#8, 0x33#8]
  | .swapH => [0xCB#8, 0x34#8]
  | .swapL => [0xCB#8, 0x35#8]
  | .swapAtHl => [0xCB#8, 0x36#8]
  | .swapA => [0xCB#8, 0x37#8]
  | .srlB => [0xCB#8, 0x38#8]
  | .srlC => [0xCB#8, 0x39#8]
  | .srlD => [0xCB#8, 0x3A#8]
  | .srlE => [0xCB#8, 0x3B#8]
  | .srlH => [0xCB#8, 0x3C#8]
  | .srlL => [0xCB#8, 0x3D#8]
  | .srlAtHl => [0xCB#8, 0x3E#8]
  | .srlA => [0xCB#8, 0x3F#8]
  | .bit0B => [0xCB#8, 0x40#8]
  | .bit0C => [0xCB#8, 0x41#8]
  | .bit0D => [0xCB#8, 0x42#8]
  | .bit0E => [0xCB#8, 0x43#8]
  | .bit0H => [0xCB#8, 0x44#8]
  | .bit0L => [0xCB#8, 0x45#8]
  | .bit0AtHl => [0xCB#8, 0x46#8]
  | .bit0A => [0xCB#8, 0x47#8]
  | .bit1B => [0xCB#8, 0x48#8]
  | .bit1C => [0xCB#8, 0x49#8]
  | .bit1D => [0xCB#8, 0x4A#8]
  | .bit1E => [0xCB#8, 0x4B#8]
  | .bit1H => [0xCB#8, 0x4C#8]
  | .bit1L => [0xCB#8, 0x4D#8]
  | .bit1AtHl => [0xCB#8, 0x4E#8]
  | .bit1A => [0xCB#8, 0x4F#8]
  | .bit2B => [0xCB#8, 0x50#8]
  | .bit2C => [0xCB#8, 0x51#8]
  | .bit2D => [0xCB#8, 0x52#8]
  | .bit2E => [0xCB#8, 0x53#8]
  | .bit2H => [0xCB#8, 0x54#8]
  | .bit2L => [0xCB#8, 0x55#8]
  | .bit2AtHl => [0xCB#8, 0x56#8]
  | .bit2A => [0xCB#8, 0x57#8]
  | .bit3B => [0xCB#8, 0x58#8]
  | .bit3C => [0xCB#8, 0x59#8]
  | .bit3D => [0xCB#8, 0x5A#8]
  | .bit3E => [0xCB#8, 0x5B#8]
  | .bit3H => [0xCB#8, 0x5C#8]
  | .bit3L => [0xCB#8, 0x5D#8]
  | .bit3AtHl => [0xCB#8, 0x5E#8]
  | .bit3A => [0xCB#8, 0x5F#8]
  | .bit4B => [0xCB#8, 0x60#8]
  | .bit4C => [0xCB#8, 0x61#8]
  | .bit4D => [0xCB#8, 0x62#8]
  | .bit4E => [0xCB#8, 0x63#8]
  | .bit4H => [0xCB#8, 0x64#8]
  | .bit4L => [0xCB#8, 0x65#8]
  | .bit4AtHl => [0xCB#8, 0x66#8]
  | .bit4A => [0xCB#8, 0x67#8]
  | .bit5B => [0xCB#8, 0x68#8]
  | .bit5C => [0xCB#8, 0x69#8]
  | .bit5D => [0xCB#8, 0x6A#8]
  | .bit5E => [0xCB#8, 0x6B#8]
  | .bit5H => [0xCB#8, 0x6C#8]
  | .bit5L => [0xCB#8, 0x6D#8]
  | .bit5AtHl => [0xCB#8, 0x6E#8]
  | .bit5A => [0xCB#8, 0x6F#8]
  | .bit6B => [0xCB#8, 0x70#8]
  | .bit6C => [0xCB#8, 0x71#8]
  | .bit6D => [0xCB#8, 0x72#8]
  | .bit6E => [0xCB#8, 0x73#8]
  | .bit6H => [0xCB#8, 0x74#8]
  | .bit6L => [0xCB#8, 0x75#8]
  | .bit6AtHl => [0xCB#8, 0x76#8]
  | .bit6A => [0xCB#8, 0x77#8]
  | .bit7B => [0xCB#8, 0x78#8]
  | .bit7C => [0xCB#8, 0x79#8]
  | .bit7D => [0xCB#8, 0x7A#8]
  | .bit7E => [0xCB#8, 0x7B#8]
  | .bit7H => [0xCB#8, 0x7C#8]
  | .bit7L => [0xCB#8, 0x7D#8]
  | .bit7AtHl => [0xCB#8, 0x7E#8]
  | .bit7A => [0xCB#8, 0x7F#8]
  | .res0B => [0xCB#8, 0x80#8]
  | .res0C => [0xCB#8, 0x81#8]
  | .res0D => [0xCB#8, 0x82#8]
  | .res0E => [0xCB#8, 0x83#8]
  | .res0H => [0xCB#8, 0x84#8]
  | .res0L => [0xCB#8, 0x85#8]
  | .res0AtHl => [0xCB#8, 0x86#8]
  | .res0A => [0xCB#8, 0x87#8]
  | .res1B => [0xCB#8, 0x88#8]
  | .res1C => [0xCB#8, 0x89#8]
  | .res1D => [0xCB#8, 0x8A#8]
  | .res1E => [0xCB#8, 0x8B#8]
  | .res1H => [0xCB#8, 0x8C#8]
  | .res1L => [0xCB#8, 0x8D#8]
  | .res1AtHl => [0xCB#8, 0x8E#8]
  | .res1A => [0xCB#8, 0x8F#8]
  | .res2B => [0xCB#8, 0x90#8]
  | .res2C => [0xCB#8, 0x91#8]
  | .res2D => [0xCB#8, 0x92#8]
  | .res2E => [0xCB#8, 0x93#8]
  | .res2H => [0xCB#8, 0x94#8]
  | .res2L => [0xCB#8, 0x95#8]
  | .res2AtHl => [0xCB#8, 0x96#8]
  | .res2A => [0xCB#8, 0x97#8]
  | .res3B => [0xCB#8, 0x98#8]
  | .res3C => [0xCB#8, 0x99#8]
  | .res3D => [0xCB#8, 0x9A#8]
  | .res3E => [0xCB#8, 0x9B#8]
  | .res3H => [0xCB#8, 0x9C#8]
  | .res3L => [0xCB#8, 0x9D#8]
  | .res3AtHl => [0xCB#8, 0x9E#8]
  | .res3A => [0xCB#8, 0x9F#8]
  | .res4B => [0xCB#8, 0xA0#8]
  | .res4C => [0xCB#8, 0xA1#8]
  | .res4D => [0xCB#8, 0xA2#8]
  | .res4E => [0xCB#8, 0xA3#8]
  | .res4H => [0xCB#8, 0xA4#8]
  | .res4L => [0xCB#8, 0xA5#8]
  | .res4AtHl => [0xCB#8, 0xA6#8]
  | .res4A => [0xCB#8, 0xA7#8]
  | .res5B => [0xCB#8, 0xA8#8]
  | .res5C => [0xCB#8, 0xA9#8]
  | .res5D => [0xCB#8, 0xAA#8]
  | .res5E => [0xCB#8, 0xAB#8]
  | .res5H => [0xCB#8, 0xAC#8]
  | .res5L => [0xCB#8, 0xAD#8]
  | .res5AtHl => [0xCB#8, 0xAE#8]
  | .res5A => [0xCB#8, 0xAF#8]
  | .res6B => [0xCB#8, 0xB0#8]
  | .res6C => [0xCB#8, 0xB1#8]
  | .res6D => [0xCB#8, 0xB2#8]
  | .res6E => [0xCB#8, 0xB3#8]
  | .res6H => [0xCB#8, 0xB4#8]
  | .res6L => [0xCB#8, 0xB5#8]
  | .res6AtHl => [0xCB#8, 0xB6#8]
  | .res6A => [0xCB#8, 0xB7#8]
  | .res7B => [0xCB#8, 0xB8#8]
  | .res7C => [0xCB#8, 0xB9#8]
  | .res7D => [0xCB#8, 0xBA#8]
  | .res7E => [0xCB#8, 0xBB#8]
  | .res7H => [0xCB#8, 0xBC#8]
  | .res7L => [0xCB#8, 0xBD#8]
  | .res7AtHl => [0xCB#8, 0xBE#8]
  | .res7A => [0xCB#8, 0xBF#8]
  | .set0B => [0xCB#8, 0xC0#8]
  | .set0C => [0xCB#8, 0xC1#8]
  | .set0D => [0xCB#8, 0xC2#8]
  | .set0E => [0xCB#8, 0xC3#8]
  | .set0H => [0xCB#8, 0xC4#8]
  | .set0L => [0xCB#8, 0xC5#8]
  | .set0AtHl => [0xCB#8, 0xC6#8]
  | .set0A => [0xCB#8, 0xC7#8]
  | .set1B => [0xCB#8, 0xC8#8]
  | .set1C => [0xCB#8, 0xC9#8]
  | .set1D => [0xCB#8, 0xCA#8]
  | .set1E => [0xCB#8, 0xCB#8]
  | .set1H => [0xCB#8, 0xCC#8]
  | .set1L => [0xCB#8, 0xCD#8]
  | .set1AtHl => [0xCB#8, 0xCE#8]
  | .set1A => [0xCB#8, 0xCF#8]
  | .set2B => [0xCB#8, 0xD0#8]
  | .set2C => [0xCB#8, 0xD1#8]
  | .set2D => [0xCB#8, 0xD2#8]
  | .set2E => [0xCB#8, 0xD3#8]
  | .set2H => [0xCB#8, 0xD4#8]
  | .set2L => [0xCB#8, 0xD5#8]
  | .set2AtHl => [0xCB#8, 0xD6#8]
  | .set2A => [0xCB#8, 0xD7#8]
  | .set3B => [0xCB#8, 0xD8#8]
  | .set3C => [0xCB#8, 0xD9#8]
  | .set3D => [0xCB#8, 0xDA#8]
  | .set3E => [0xCB#8, 0xDB#8]
  | .set3H => [0xCB#8, 0xDC#8]
  | .set3L => [0xCB#8, 0xDD#8]
  | .set3AtHl => [0xCB#8, 0xDE#8]
  | .set3A => [0xCB#8, 0xDF#8]
  | .set4B => [0xCB#8, 0xE0#8]
  | .set4C => [0xCB#8, 0xE1#8]
  | .set4D => [0xCB#8, 0xE2#8]
  | .set4E => [0xCB#8, 0xE3#8]
  | .set4H => [0xCB#8, 0xE4#8]
  | .set4L => [0xCB#8, 0xE5#8]
  | .set4AtHl => [0xCB#8, 0xE6#8]
  | .set4A => [0xCB#8, 0xE7#8]
  | .set5B => [0xCB#8, 0xE8#8]
  | .set5C => [0xCB#8, 0xE9#8]
  | .set5D => [0xCB#8, 0xEA#8]
  | .set5E => [0xCB#8, 0xEB#8]
  | .set5H => [0xCB#8, 0xEC#8]
  | .set5L => [0xCB#8, 0xED#8]
  | .set5AtHl => [0xCB#8, 0xEE#8]
  | .set5A => [0xCB#8, 0xEF#8]
  | .set6B => [0xCB#8, 0xF0#8]
  | .set6C => [0xCB#8, 0xF1#8]
  | .set6D => [0xCB#8, 0xF2#8]
  | .set6E => [0xCB#8, 0xF3#8]
  | .set6H => [0xCB#8, 0xF4#8]
  | .set6L => [0xCB#8, 0xF5#8]
  | .set6AtHl => [0xCB#8, 0xF6#8]
  | .set6A => [0xCB#8, 0xF7#8]
  | .set7B => [0xCB#8, 0xF8#8]
  | .set7C => [0xCB#8, 0xF9#8]
  | .set7D => [0xCB#8, 0xFA#8]
  | .set7E => [0xCB#8, 0xFB#8]
  | .set7H => [0xCB#8, 0xFC#8]
  | .set7L => [0xCB#8, 0xFD#8]
  | .set7AtHl => [0xCB#8, 0xFE#8]
  | .set7A => [0xCB#8, 0xFF#8]

/-! ## The host's table words -/

/-- The three bytes, lowest address first, of the instruction whose table bits are `w` (of `nbits` bits), with zeros after them.
The table numbers a 16-bit row 0xCBNN "for the byte sequence CB then NN" (R100), so the first byte of such a word is its HIGH
byte; every other word has its first byte lowest. Log entry 9. -/
def tableBytes (nbits w : Nat) : List Byte :=
  let v : BitVec 24 := BitVec.ofNat 24 (w % 2 ^ nbits)
  let b0 : Byte := v.extractLsb' 0 8
  let b1 : Byte := v.extractLsb' 8 8
  let b2 : Byte := v.extractLsb' 16 8
  if nbits = 16 ∧ b1 = 0xCB#8 then [b1, b0, 0#8] else [b0, b1, b2]

/-- The instruction the decoder reads from the table word `w` of `nbits` bits. -/
def decodeTableWord (nbits w : Nat) : Option Instr :=
  match decode (tableBytes nbits w) with
  | .ok (i, _) => some i
  | .error _ => none

end Sys2Proof
end

