-- ==== Sys2Proof/Machine/State.lean ====
section
/-! DEFINITION. The state of the machine as plain data: what R20 gives the core, the memory it is attached to (R50) and its
behaviour (R6, R51, R52), the ports of R33, and the state right after construction (R32, R340). -/

namespace Sys2Proof.Machine

/-- The contents of the 65,536-byte store (R50) as (address, byte) pairs: addresses strictly rising, no byte equal to what an unlisted address
reads as (`unlistedByte`). -/
abbrev Memory := List Host.Cell

/-- What an address that memory does not list holds: the store of the spec's own vectors is "initially all 0" (92 D21).
DESIGN CHOICE, unsafe: the spec leaves the contents to `MEM` (log entry 2). -/
def unlistedByte : Byte := 0#8

/-- How the Memory answers the transactions at an address. "Whether the byte is stored, ignored (for example in ROM) or triggers an
effect is the Memory's business" (R52). -/
inductive StoreKind where
  /-- A write is stored, and a read answers the byte held. -/
  | ram
  /-- A write is ignored, and a read answers the byte held. -/
  | rom
  /-- The address is not held here: each read is answered by the host (R51's oracle), and a write only goes out. An I/O register, a
  banked window, or memory that others write. -/
  | external
deriving DecidableEq, Repr

/-- The addresses from `first` to `last`, both included, with their behaviour. -/
structure Region where
  first : Word
  last : Word
  kind : StoreKind
deriving DecidableEq, Repr

/-- The parameter `MEM` of R6: "the initial contents of the 65,536-byte store, plus the behaviour of the store" (log entry 2). -/
structure Mem where
  /-- The initial contents. -/
  contents : Memory
  /-- The behaviour, region by region: the first region that holds an address decides, and an address in none is `ram`. -/
  regions : List Region
  /-- The bytes the host will answer to the coming reads of external addresses, the next read's first. -/
  answers : List Byte
deriving DecidableEq, Repr

/-- The plain array of the spec's vectors (92 D21) that holds these bytes. -/
def Mem.plain (contents : Memory) : Mem :=
  ⟨contents, [], []⟩

/-- The fault register (R30, R301). -/
inductive FaultRegister where
  /-- No fault. -/
  | none
  /-- `UNSUPPORTED_MODEL`, with the requested model (R302). -/
  | unsupportedModel (m : ModelId)
  /-- `UNIMPLEMENTED_OPCODE`, with the opcode byte and the address it was read from (R303). -/
  | unimplementedOpcode (op : Byte) (addr : Word)
deriving DecidableEq, Repr

/-- What the core sends out through the ports of R33. -/
inductive BusEvent where
  /-- One `read(addr)` transaction and the byte it was answered (R51). -/
  | read (addr : Word) (v : Byte)
  /-- One `write(addr, v)` transaction (R52). -/
  | write (addr : Word) (v : Byte)
  /-- `irq_ack(n)`: interrupt line n was accepted (R309). -/
  | irqAck (n : Fin 5)
deriving DecidableEq, Repr

/-- The levels of the two input ports during one tick (R33). -/
structure Inputs where
  irqReq : BitVec 5
  stopWake : Bool
deriving DecidableEq, Repr

/-- The machine. Every field names its rule; `answers`, `inputs`, `trace` and `opcodeAddr` are the model's own (log entries 2, 3, 4
and 6). -/
structure State where
  /-- The accumulator A (R21, R35). -/
  a : Byte
  /-- The flags register F, whole (R23): Z, N, H, C in bits 7 to 4. -/
  f : Byte
  /-- Register B (R21). -/
  b : Byte
  /-- Register C (R21). -/
  c : Byte
  /-- Register D (R21). -/
  d : Byte
  /-- Register E (R21). -/
  e : Byte
  /-- Register H (R21). -/
  h : Byte
  /-- Register L (R21). -/
  l : Byte
  /-- The stack pointer (R25). -/
  sp : Word
  /-- The program counter: between ticks, the address of the next byte to fetch (R26). -/
  pc : Word
  /-- `cyclesRemaining`: the ticks left until the next fetch (R27). "It holds a natural number". -/
  cr : Nat
  /-- The interrupt master enable (R28). -/
  ime : Bool
  /-- "EI executed; set IME at the next boundary" (R28). -/
  eiPending : Bool
  /-- Set by HALT, cleared by a wake-up (R29). -/
  halted : Bool
  /-- Set by STOP, cleared by `stop_wake` (R29). -/
  stopped : Bool
  /-- Suppresses one PC increment (R29, R83). -/
  haltBug : Bool
  /-- Set by an unused opcode under LOCKUP (R29). -/
  locked : Bool
  /-- The fault register and the `fault` output (R30, R33). -/
  fault : FaultRegister
  /-- What the memory the core holds a handle to holds now (R50). -/
  mem : Memory
  /-- The behaviour of that memory (R6, R51, R52). Nothing writes it. -/
  regions : List Region
  /-- The host's answers to the coming reads of external addresses, the next read's first (R51; log entry 2). -/
  answers : List Byte
  /-- The static configuration port (R33, R6). Nothing writes it. -/
  cfg : Config
  /-- The level of the `irq_req[4:0]` port now (R33, R306). -/
  irqReq : BitVec 5
  /-- The level of the `stop_wake` port now (R33, R316). -/
  stopWake : Bool
  /-- The levels the host will drive on the coming ticks, the next tick's first; when the list is empty the levels stay as they
  are (log entry 3). -/
  inputs : List Inputs
  /-- The core's transactions and acknowledgements since construction, newest first (R60, R64; log entry 4). -/
  trace : List BusEvent
  /-- `opaddr` of R83: the address the opcode being dispatched was read from (log entry 6). -/
  opcodeAddr : Word
deriving DecidableEq, Repr

/-- The faults a step can STOP with: none. "No instruction traps to a handler", no memory access can fail, and a fatal condition
is a value of the fault register of a core whose ticks go on and do nothing (R300, R53, R304). So the type has no constructor,
which is the strongest form of that promise: nobody raises one. Safe. -/
inductive Fault where
deriving DecidableEq, Repr

/-- The reasons a step can be refused. -/
inductive Refusal where
  /-- Raised by an arm of `exec` whose instruction has no meaning yet. There is none left. Safe. -/
  | notModelled (mnemonic : String)
  /-- Raised by a dispatch whose fetched bytes do not decode. No state reaches it: a fetch supplies as many bytes as its opcode
  asks for, and every opcode decodes (R99). Safe. -/
  | undecodable (why : DecodeError)
deriving DecidableEq, Repr

/-- What a meaning answers. -/
abbrev Result := Host.Outcome State Fault Refusal

/-- `RESET_PC` as an address (R6). -/
def resetAddress : ResetPc → Word
  | .at0000 => 0x0000#16
  | .at0100 => 0x0100#16

/-- Construction for a supported model: every element at its value in R32 (R340 step 2). The two levels, the coming levels, the
trace and `opcodeAddr` are not the core's state: they start at 0 and empty (log entries 3, 4 and 6). -/
def State.powerOn (cfg : Config) (mem : Mem) : State where
  a := 0x01#8
  f := 0xB0#8
  b := 0x00#8
  c := 0x13#8
  d := 0x00#8
  e := 0xD8#8
  h := 0x01#8
  l := 0x4D#8
  sp := 0xFFFE#16
  pc := resetAddress cfg.resetPc
  cr := 0
  ime := false
  eiPending := false
  halted := false
  stopped := false
  haltBug := false
  locked := false
  fault := .none
  mem := mem.contents
  regions := mem.regions
  answers := mem.answers
  cfg := cfg
  irqReq := 0#5
  stopWake := false
  inputs := []
  trace := []
  opcodeAddr := 0x0000#16

/-- Construction (R340). With a model other than DMG the fault register holds the request and the registers "hold no defined
values" (R302): free values, F with its low nibble 0 as at all times (R23). -/
def State.construct (cfg : Config) (mem : Mem) : State :=
  match cfg.model with
  | .dmg => State.powerOn cfg mem
  | .other name =>
    { State.powerOn cfg mem with
      a := Config.undefinedByte 0
      f := Config.undefinedByte 1 &&& 0xF0#8
      b := Config.undefinedByte 2
      c := Config.undefinedByte 3
      d := Config.undefinedByte 4
      e := Config.undefinedByte 5
      h := Config.undefinedByte 6
      l := Config.undefinedByte 7
      sp := Config.undefinedWord 0
      pc := Config.undefinedWord 1
      fault := .unsupportedModel (.other name) }

/-- The machine right after reset: constructed with the default parameters of R6 and, for `MEM`, which has no default, a plain
array with nothing listed (log entries 1 and 2). -/
def State.reset : State :=
  State.construct Config.default (.plain [])

end Sys2Proof.Machine
end

