-- ==== Sys2Proof/Machine/Flags.lean ====
section
/-! DEFINITION. The flags as four bits (R23), and the ALU: the result and the flags of every operation, as functions of their
operands alone. Arithmetic is done on integers, as the spec writes it, and narrowed at the end (R8). -/

namespace Sys2Proof.Machine

/-- The four flags (R23). -/
structure Flags where
  z : Bool
  n : Bool
  h : Bool
  c : Bool
deriving DecidableEq, Repr

/-- F as `{fZ, fN, fH, fC, 0b0000}` (R23). -/
def Flags.pack (fl : Flags) : Byte :=
  (if fl.z then 0x80#8 else 0#8) ||| (if fl.n then 0x40#8 else 0#8) ||| (if fl.h then 0x20#8 else 0#8)
    ||| (if fl.c then 0x10#8 else 0#8)

/-- A result byte and the four flags that go with it. -/
structure AluResult where
  value : Byte
  flags : Flags
deriving DecidableEq, Repr

/-- A carry bit as an integer. -/
def carryNat (c : Bool) : Nat :=
  if c then 1 else 0

/-- A bit as a byte, for the rotates: bit 0. -/
def bitByte (c : Bool) : Byte :=
  if c then 1#8 else 0#8

/-! ## 8-bit arithmetic and logic -/

/-- `Add8(a, b, cin)` of R151. -/
def add8 (a b : Byte) (cin : Bool) : AluResult :=
  let r := a.toNat + b.toNat + carryNat cin
  let v := BitVec.ofNat 8 r
  ⟨v, decide (v = 0#8), false, decide (a.toNat % 16 + b.toNat % 16 + carryNat cin > 15), decide (r > 255)⟩

/-- `Sub8(a, b, cin)` of R151. Its half-carry is a borrow test of its own, not the one of `add8`. -/
def sub8 (a b : Byte) (cin : Bool) : AluResult :=
  let r : Int := (a.toNat : Int) - b.toNat - carryNat cin
  let v := BitVec.ofInt 8 r
  ⟨v, decide (v = 0#8), true, decide (a.toNat % 16 < b.toNat % 16 + carryNat cin),
    decide (a.toNat < b.toNat + carryNat cin)⟩

/-- AND: H is 1, C is 0 (R164). -/
def and8 (a b : Byte) : AluResult :=
  ⟨a &&& b, decide (a &&& b = 0#8), false, true, false⟩

/-- XOR: H and C are 0 (R167). -/
def xor8 (a b : Byte) : AluResult :=
  ⟨a ^^^ b, decide (a ^^^ b = 0#8), false, false, false⟩

/-- OR: H and C are 0 (R170). -/
def or8 (a b : Byte) : AluResult :=
  ⟨a ||| b, decide (a ||| b = 0#8), false, false, false⟩

/-- The ALU operation `op` on A and the second operand, with the carry flag as it was before (R150 to R175). -/
def aluResult (op : AluOp) (a v : Byte) (carry : Bool) : AluResult :=
  match op with
  | .add => add8 a v false
  | .adc => add8 a v carry
  | .sub => sub8 a v false
  | .sbc => sub8 a v carry
  | .and => and8 a v
  | .xor => xor8 a v
  | .or => or8 a v
  | .cp => sub8 a v false

/-- "Every operation except CP writes its result to A" (R150). -/
def aluWritesA : AluOp → Bool
  | .cp => false
  | .add | .adc | .sub | .sbc | .and | .xor | .or => true

/-- INC of a byte: the carry is kept (R176). -/
def inc8 (v : Byte) (carry : Bool) : AluResult :=
  let r := BitVec.ofNat 8 (v.toNat + 1)
  ⟨r, decide (r = 0#8), false, decide (v.toNat % 16 = 15), carry⟩

/-- DEC of a byte: the carry is kept (R178). -/
def dec8 (v : Byte) (carry : Bool) : AluResult :=
  let r := BitVec.ofInt 8 ((v.toNat : Int) - 1)
  ⟨r, decide (r = 0#8), true, decide (v.toNat % 16 = 0), carry⟩

/-- DAA on A and the flags N, H and C (R180). -/
def daaResult (a : Byte) (n h c : Bool) : AluResult :=
  let v : Int := a.toNat
  if n then
    let v1 := if c then v - 0x60 else v
    let v2 := if h then v1 - 0x06 else v1
    let r := BitVec.ofInt 8 v2
    ⟨r, decide (r = 0#8), n, false, c⟩
  else
    let high := c || decide (v > 0x99)
    let v1 := if high then v + 0x60 else v
    let v2 := if h || decide (v1 % 16 > 9) then v1 + 0x06 else v1
    let r := BitVec.ofInt 8 v2
    ⟨r, decide (r = 0#8), n, false, high⟩

/-! ## Rotates, shifts and single bits -/

/-- The result of a rotate or shift of `v` with the carry flag `carry`, and the carry it leaves (R251 to R265). -/
def shiftByte (op : ShiftOp) (v : Byte) (carry : Bool) : Byte × Bool :=
  match op with
  | .rlc => ((v <<< 1) ||| bitByte (v.getLsbD 7), v.getLsbD 7)
  | .rrc => ((v >>> 1) ||| (bitByte (v.getLsbD 0) <<< 7), v.getLsbD 0)
  | .rl => ((v <<< 1) ||| bitByte carry, v.getLsbD 7)
  | .rr => ((v >>> 1) ||| (bitByte carry <<< 7), v.getLsbD 0)
  | .sla => (v <<< 1, v.getLsbD 7)
  | .sra => ((v >>> 1) ||| (v &&& 0x80#8), v.getLsbD 0)
  | .swap => (((v &&& 0x0F#8) <<< 4) ||| (v >>> 4), false)
  | .srl => (v >>> 1, v.getLsbD 0)

/-- The extended rotates and shifts: the common flag step `sh(v, r, c)` of R250. -/
def shiftResult (op : ShiftOp) (v : Byte) (carry : Bool) : AluResult :=
  let r := shiftByte op v carry
  ⟨r.1, decide (r.1 = 0#8), false, false, r.2⟩

/-- The accumulator rotates: Z is 0 whatever the result (R240 to R243). -/
def accRotateResult (op : ShiftOp) (v : Byte) (carry : Bool) : AluResult :=
  let r := shiftByte op v carry
  ⟨r.1, false, false, false, r.2⟩

/-- The flags of BIT: Z is the complement of the bit, N is 0, H is 1, C is kept (R267). -/
def bitFlags (n : Fin 8) (v : Byte) (carry : Bool) : Flags :=
  ⟨!v.getLsbD n.val, false, true, carry⟩

/-- `v & ~(1 << b) & 0xFF` (R269). -/
def resBit (n : Fin 8) (v : Byte) : Byte :=
  v &&& ~~~(1#8 <<< n.val)

/-- `v | (1 << b)` (R271). -/
def setBit (n : Fin 8) (v : Byte) : Byte :=
  v ||| (1#8 <<< n.val)

/-! ## 16-bit arithmetic -/

/-- A 16-bit sum and its flags N, H and C; Z is the caller's. -/
structure AddHlResult where
  value : Word
  flags : Flags
deriving DecidableEq, Repr

/-- ADD HL,rr: H is the carry out of bit 11, C out of bit 15, Z is kept (R191). -/
def addHlResult (a b : Word) (z : Bool) : AddHlResult :=
  let r := a.toNat + b.toNat
  ⟨BitVec.ofNat 16 r, ⟨z, false, decide (a.toNat % 4096 + b.toNat % 4096 > 4095), decide (r > 65535)⟩⟩

/-- `sext_8(e)` of R8, as an integer. -/
def sextInt (e : Byte) : Int :=
  if e.toNat < 128 then e.toNat else (e.toNat : Int) - 256

/-- `trunc16(v + sext_8(e))` (R91, R144, R194, R205). -/
def addSigned (v : Word) (e : Byte) : Word :=
  BitVec.ofInt 16 (v.toNat + sextInt e)

/-- The flags of ADD SP,e8 and LD HL,SP+e8: Z and N are 0, H and C come from the unsigned sum of the low byte of SP and the raw
byte e (R144, R194). -/
def spOffsetFlags (sp : Word) (e : Byte) : Flags :=
  ⟨false, false, decide (sp.toNat % 16 + e.toNat % 16 > 15), decide (sp.toNat % 256 + e.toNat > 255)⟩

end Sys2Proof.Machine
end

