-- ==== Sys2Proof/Machine/Ops.lean ====
section
/-! DEFINITION. The named operations of the machine: registers and pairs, flags, memory transactions (R10), fetching, the stack,
the input ports, taking an interrupt and returning from one. Every register and every byte of memory is read and written here. -/

namespace Sys2Proof.Machine

/-! ## Memory -/

/-- The byte at address `a`. -/
def Memory.read : Memory → Nat → Byte
  | [], _ => unlistedByte
  | (k, v) :: m, a => if k = a then v else Memory.read m a

/-- Memory with the byte `v` at address `a`, in the canonical form: the value an unlisted address reads as is not listed. -/
def Memory.write : Memory → Nat → Byte → Memory
  | [], a, v => if v = unlistedByte then [] else [(a, v)]
  | (k, w) :: m, a, v =>
    if a < k then
      if v = unlistedByte then (k, w) :: m else (a, v) :: (k, w) :: m
    else if a = k then
      if v = unlistedByte then m else (a, v) :: m
    else (k, w) :: Memory.write m a v

/-- Every listed address is at least `lo`, addresses rise strictly and lie in the address space, and no listed byte is the one an
unlisted address reads as. -/
def Memory.wfFrom (lo : Nat) : Memory → Bool
  | [] => true
  | (k, v) :: m => decide (lo ≤ k) && decide (k < 65536) && (v != unlistedByte) && Memory.wfFrom (k + 1) m

/-- The canonical form of a memory. -/
def Memory.wf (m : Memory) : Bool :=
  Memory.wfFrom 0 m

/-- The byte held at address `a`, looked at without a transaction (R319). -/
def State.peek (s : State) (a : Word) : Byte :=
  Memory.read s.mem a.toNat

/-- Memory replaced whole. Only `memWrite`, and the host's placing of bytes, use it. -/
def State.setMem (s : State) (m : Memory) : State :=
  { s with mem := m }

/-- One output on the ports of R33, as the newest entry of the trace (R60). -/
def State.emit (s : State) (ev : BusEvent) : State :=
  { s with trace := ev :: s.trace }

/-- The address is one of the region's. -/
def Region.holds (r : Region) (a : Word) : Bool :=
  decide (r.first.toNat ≤ a.toNat) && decide (a.toNat ≤ r.last.toNat)

/-- The behaviour at an address: that of the first region that holds it, and `ram` where none does. -/
def regionKind : List Region → Word → StoreKind
  | [], _ => .ram
  | r :: rest, a => if r.holds a then r.kind else regionKind rest a

/-- The behaviour of this machine's memory at an address (R6). -/
def State.kindAt (s : State) (a : Word) : StoreKind :=
  regionKind s.regions a

/-- What the Memory answers to a read of `a` now (R51): the byte held, or at an external address the host's next answer. -/
def State.answer (s : State) (a : Word) : Byte :=
  if s.kindAt a = .external then s.answers.headD (Config.unansweredByte s.trace.length) else s.peek a

/-- The host's coming answers after a read of `a`: one fewer if the read was external. -/
def State.answersAfter (s : State) (a : Word) : List Byte :=
  if s.kindAt a = .external then s.answers.tail else s.answers

/-- The state a read of `a` leaves. -/
def State.afterRead (s : State) (a : Word) : State :=
  { s with answers := s.answersAfter a, trace := .read a (s.answer a) :: s.trace }

/-- `MemRead(a, 1)`: one read transaction, and the byte the Memory answers (R51). -/
def State.memRead (s : State) (a : Word) : Byte × State :=
  (s.answer a, s.afterRead a)

/-- What memory holds after a write of `v` at `a` (R52): only `ram` stores it. -/
def State.memAfterWrite (s : State) (a : Word) (v : Byte) : Memory :=
  if s.kindAt a = .ram then Memory.write s.mem a.toNat v else s.mem

/-- `MemWrite(a, 1, v)`: one write transaction (R52). -/
def State.memWrite (s : State) (a : Word) (v : Byte) : State :=
  (s.setMem (s.memAfterWrite a v)).emit (.write a v)

/-! ## Registers -/

/-- `x[r]` of R9, for a register. -/
def State.reg (s : State) : Reg → Byte
  | .b => s.b
  | .c => s.c
  | .d => s.d
  | .e => s.e
  | .h => s.h
  | .l => s.l
  | .a => s.a

/-- `x[r] <- v` of R9, for a register. -/
def State.setReg (s : State) (r : Reg) (v : Byte) : State :=
  match r with
  | .b => { s with b := v }
  | .c => { s with c := v }
  | .d => { s with d := v }
  | .e => { s with e := v }
  | .h => { s with h := v }
  | .l => { s with l := v }
  | .a => { s with a := v }

/-- `SP <- v` (R25). -/
def State.setSp (s : State) (v : Word) : State :=
  { s with sp := v }

/-- `PC <- v` (R26). -/
def State.setPc (s : State) (v : Word) : State :=
  { s with pc := v }

/-- `cr <- n` (R27). -/
def State.setCr (s : State) (n : Nat) : State :=
  { s with cr := n }

/-- `IME <- v` (R28). -/
def State.setIme (s : State) (v : Bool) : State :=
  { s with ime := v }

/-- `ei_pending <- v` (R28). -/
def State.setEiPending (s : State) (v : Bool) : State :=
  { s with eiPending := v }

/-- `halted <- v` (R29). -/
def State.setHalted (s : State) (v : Bool) : State :=
  { s with halted := v }

/-- `stopped <- v` (R29). -/
def State.setStopped (s : State) (v : Bool) : State :=
  { s with stopped := v }

/-- `halt_bug <- v` (R29). -/
def State.setHaltBug (s : State) (v : Bool) : State :=
  { s with haltBug := v }

/-- `locked <- v` (R29). -/
def State.setLocked (s : State) (v : Bool) : State :=
  { s with locked := v }

/-- The fault register is loaded (R30, R303). -/
def State.setFault (s : State) (v : FaultRegister) : State :=
  { s with fault := v }

/-- `opaddr <- v` (R83). -/
def State.setOpcodeAddr (s : State) (v : Word) : State :=
  { s with opcodeAddr := v }

/-- A read of F: "`F[3:0]` reads as 0 at all times" (R23). -/
def State.readF (s : State) : Byte :=
  s.f &&& 0xF0#8

/-- `F <- v`: "Every write of a value v to F stores `v & 0xF0`" (R23). -/
def State.setF (s : State) (v : Byte) : State :=
  { s with f := v &&& 0xF0#8 }

/-- The pair BC (R22). -/
def State.bc (s : State) : Word := joinBytes s.b s.c

/-- The pair DE (R22). -/
def State.de (s : State) : Word := joinBytes s.d s.e

/-- The pair HL (R22). -/
def State.hl (s : State) : Word := joinBytes s.h s.l

/-- The pair AF (R22). -/
def State.af (s : State) : Word := joinBytes s.a s.readF

/-- `HL <- v` (R22). -/
def State.setHl (s : State) (v : Word) : State :=
  (s.setReg .h (highByte v)).setReg .l (lowByte v)

/-- `x16[p]` of R9. -/
def State.pair (s : State) : Pair → Word
  | .bc => s.bc
  | .de => s.de
  | .hl => s.hl
  | .sp => s.sp

/-- `x16[p] <- v` of R9. -/
def State.setPair (s : State) (p : Pair) (v : Word) : State :=
  match p with
  | .bc => (s.setReg .b (highByte v)).setReg .c (lowByte v)
  | .de => (s.setReg .d (highByte v)).setReg .e (lowByte v)
  | .hl => s.setHl v
  | .sp => s.setSp v

/-- `x16q[p]` of R9. -/
def State.stackPair (s : State) : StackPair → Word
  | .bc => s.bc
  | .de => s.de
  | .hl => s.hl
  | .af => s.af

/-- `x16q[p] <- v` of R9: AF takes `v & 0xFFF0`. -/
def State.setStackPair (s : State) (p : StackPair) (v : Word) : State :=
  match p with
  | .bc => (s.setReg .b (highByte v)).setReg .c (lowByte v)
  | .de => (s.setReg .d (highByte v)).setReg .e (lowByte v)
  | .hl => s.setHl v
  | .af => (s.setReg .a (highByte v)).setF (lowByte v)

/-! ## Flags -/

/-- fZ, bit 7 of F (R23). -/
def State.flagZ (s : State) : Bool := s.f.getLsbD 7

/-- fN, bit 6 of F (R23). -/
def State.flagN (s : State) : Bool := s.f.getLsbD 6

/-- fH, bit 5 of F (R23). -/
def State.flagH (s : State) : Bool := s.f.getLsbD 5

/-- fC, bit 4 of F (R23). -/
def State.flagC (s : State) : Bool := s.f.getLsbD 4

/-- The four flags written together; a flag an instruction preserves is passed as it was (R24). -/
def State.setFlags (s : State) (fl : Flags) : State :=
  s.setF fl.pack

/-! ## Fetching -/

/-- `Fetch8()` (R10, R89). -/
def State.fetch8 (s : State) : Byte × State :=
  let r := s.memRead s.pc
  (r.1, r.2.setPc (s.pc + 1#16))

/-- The opcode fetch of R83: `opaddr` is recorded, and the halt bug suppresses the increment of PC once. -/
def State.fetchOpcode (s : State) : Byte × State :=
  let s := s.setOpcodeAddr s.pc
  if s.haltBug then
    let r := s.memRead s.pc
    (r.1, r.2.setHaltBug false)
  else s.fetch8

/-- `n` operand bytes, fetched at increasing addresses (R60). -/
def State.fetchBytes (s : State) : Nat → List Byte × State
  | 0 => ([], s)
  | n + 1 =>
    let r := s.fetch8
    let rest := State.fetchBytes r.2 n
    (r.1 :: rest.1, rest.2)

/-- All the bytes of the instruction at PC: the opcode, then as many bytes as it asks for (R80, R99). -/
def State.fetchInstr (s : State) : List Byte × State :=
  let r := s.fetchOpcode
  let rest := r.2.fetchBytes (instrLength r.1 - 1)
  (r.1 :: rest.1, rest.2)

/-! ## The stack -/

/-- `Push16(v)` (R58): SP is decremented before each of the two writes, the high byte first. -/
def State.push16 (s : State) (v : Word) : State :=
  let s := s.setSp (s.sp - 1#16)
  let s := s.memWrite s.sp (highByte v)
  let s := s.setSp (s.sp - 1#16)
  s.memWrite s.sp (lowByte v)

/-- `Pop16()` (R59): the low byte, then the high byte, SP incremented after each. -/
def State.pop16 (s : State) : Word × State :=
  let lo := s.memRead s.sp
  let s := lo.2.setSp (s.sp + 1#16)
  let hi := s.memRead s.sp
  (joinBytes hi.1 lo.1, hi.2.setSp (s.sp + 1#16))

/-! ## The input ports -/

/-- A tick sees the levels the host drives on it: the next entry of `inputs`, or the levels as they are (log entry 3). -/
def State.sampleInputs (s : State) : State :=
  match s.inputs with
  | [] => s
  | i :: rest => { s with irqReq := i.irqReq, stopWake := i.stopWake, inputs := rest }

/-- `irq_req[4:0]` as the core sees it: all 0 when `IRQ_CONNECTED = false` (R306). -/
def State.irqLines (s : State) : BitVec 5 :=
  if s.cfg.irqConnected then s.irqReq else 0#5

/-- `stop_wake` as the core sees it: 0 when `STOP_WAKE_CONNECTED = false` (R316). -/
def State.stopWakeLine (s : State) : Bool :=
  s.cfg.stopWakeConnected && s.stopWake

/-! ## Taking an interrupt, and returning from one -/

/-- The winning line: the lowest-numbered one that is 1 (R308). -/
def lowestLine (lines : BitVec 5) : Fin 5 :=
  if lines.getLsbD 0 then 0
  else if lines.getLsbD 1 then 1
  else if lines.getLsbD 2 then 2
  else if lines.getLsbD 3 then 3
  else 4

/-- The vector of line n: `0x0040 + 8 * n` (R310). -/
def interruptVector (n : Fin 5) : Word :=
  BitVec.ofNat 16 (0x40 + 8 * n.val)

/-- `InterruptEntry(n)` (R309). -/
def State.interruptEntry (s : State) (n : Fin 5) : State :=
  let s := (s.setIme false).setEiPending false
  let s := s.push16 s.pc
  let s := s.setPc (interruptVector n)
  (s.emit (.irqAck n)).setCr 20

/-- What RETI does to the machine: PC from the stack, and IME set at once (R211, R312). -/
def State.returnFromInterrupt (s : State) : State :=
  let r := s.pop16
  (r.2.setPc r.1).setIme true

/-! ## The end of a meaning -/

/-- An instruction that is done: its effect, and its cost as the new `cr` (R82, R104). -/
def finish (cost : Nat) (s : State) : Result :=
  .next (s.setCr cost)

end Sys2Proof.Machine
end

