-- ==== Sys2Proof/Machine/Operands.lean ====
section
/-! DEFINITION. The operand forms that compute an address, a target or a condition (R91 to R93, R200, R212). -/

namespace Sys2Proof.Machine

/-- High-page addressing: `0xFF00 | n` (R92). -/
def highPage (n : Byte) : Word :=
  0xFF00#16 ||| n.setWidth 16

/-- The target of a relative jump: PC, already past the operand byte, plus the signed offset (R91, R205). -/
def State.relativeTarget (s : State) (e : Byte) : Word :=
  addSigned s.pc e

/-- The target of RST t: `zext_16(t * 8)` (R212). -/
def restartTarget (t : Fin 8) : Word :=
  BitVec.ofNat 16 (8 * t.val)

/-- `cond(cc)` (R200). -/
def State.cond (s : State) : Cond → Bool
  | .nz => !s.flagZ
  | .z => s.flagZ
  | .nc => !s.flagC
  | .c => s.flagC

/-- A read of the byte at HL (R93). -/
def State.readAtHl (s : State) : Byte × State :=
  s.memRead s.hl

/-- A write of the byte at HL (R93). -/
def State.writeAtHl (s : State) (v : Byte) : State :=
  s.memWrite s.hl v

end Sys2Proof.Machine
end

