-- ==== Sys2Proof/Machine/Alu16.lean ====
section
/-! DEFINITION. The meanings of 16-bit arithmetic (43_alu16.md): R190 to R194. Each starts after all the bytes of
its instruction have been fetched (R60), so PC is already past them. -/

namespace Sys2Proof.Machine

/-! ## Shared operations -/

/-- ADD HL,rr (R191). -/
def addHl (p : Pair) (s : State) : Result :=
  let r := addHlResult s.hl (s.pair p) s.flagZ
  finish 8 ((s.setHl r.value).setFlags r.flags)

/-- `x16[p] <- trunc16(x16[p] + 1)`; no flag (R192). -/
def incPair (p : Pair) (s : State) : Result :=
  finish 8 (s.setPair p (s.pair p + 1#16))

/-- `x16[p] <- trunc16(x16[p] - 1)`; no flag (R193). -/
def decPair (p : Pair) (s : State) : Result :=
  finish 8 (s.setPair p (s.pair p - 1#16))

/-- ADD SP,e8 (R194). -/
def addSp (e : Byte) (s : State) : Result :=
  finish 16 ((s.setSp (addSigned s.sp e)).setFlags (spOffsetFlags s.sp e))

/-! ## The rows -/

/-- R194: ADD SP,e8 (E8). -/
def execAddSpE8 (e : Byte) (s : State) : Result :=
  addSp e s

/-- R192: INC BC (03). -/
def execIncBc (s : State) : Result :=
  incPair .bc s

/-- R191: ADD HL,BC (09). -/
def execAddHlBc (s : State) : Result :=
  addHl .bc s

/-- R193: DEC BC (0B). -/
def execDecBc (s : State) : Result :=
  decPair .bc s

/-- R192: INC DE (13). -/
def execIncDe (s : State) : Result :=
  incPair .de s

/-- R191: ADD HL,DE (19). -/
def execAddHlDe (s : State) : Result :=
  addHl .de s

/-- R193: DEC DE (1B). -/
def execDecDe (s : State) : Result :=
  decPair .de s

/-- R192: INC HL (23). -/
def execIncHl (s : State) : Result :=
  incPair .hl s

/-- R191: ADD HL,HL (29). -/
def execAddHlHl (s : State) : Result :=
  addHl .hl s

/-- R193: DEC HL (2B). -/
def execDecHl (s : State) : Result :=
  decPair .hl s

/-- R192: INC SP (33). -/
def execIncSp (s : State) : Result :=
  incPair .sp s

/-- R191: ADD HL,SP (39). -/
def execAddHlSp (s : State) : Result :=
  addHl .sp s

/-- R193: DEC SP (3B). -/
def execDecSp (s : State) : Result :=
  decPair .sp s

end Sys2Proof.Machine
end

