-- ==== Sys2Proof/Machine/Alu8.lean ====
section
/-! DEFINITION. The meanings of 8-bit arithmetic and logic (42_alu8.md): R150 to R183. Each starts after all the bytes of
its instruction have been fetched (R60), so PC is already past them. -/

namespace Sys2Proof.Machine

/-! ## Shared operations -/

/-- An ALU operation on A and `v`: the flags, and A unless the operation is CP (R150). -/
def State.alu (s : State) (op : AluOp) (v : Byte) : State :=
  let r := aluResult op s.a v s.flagC
  if aluWritesA op then (s.setReg .a r.value).setFlags r.flags else s.setFlags r.flags

/-- `op r` (R150). -/
def aluReg (op : AluOp) (src : Reg) (s : State) : Result :=
  finish 4 (s.alu op (s.reg src))

/-- `op (HL)` (R150). -/
def aluAtHl (op : AluOp) (s : State) : Result :=
  let r := s.readAtHl
  finish 8 (r.2.alu op r.1)

/-- `op d8` (R150). -/
def aluImm (op : AluOp) (n : Byte) (s : State) : Result :=
  finish 8 (s.alu op n)

/-- INC r (R176). -/
def incReg (r : Reg) (s : State) : Result :=
  let v := inc8 (s.reg r) s.flagC
  finish 4 ((s.setReg r v.value).setFlags v.flags)

/-- INC (HL): one read, one write (R177). -/
def incAtHl (s : State) : Result :=
  let r := s.readAtHl
  let v := inc8 r.1 s.flagC
  finish 12 ((r.2.writeAtHl v.value).setFlags v.flags)

/-- DEC r (R178). -/
def decReg (r : Reg) (s : State) : Result :=
  let v := dec8 (s.reg r) s.flagC
  finish 4 ((s.setReg r v.value).setFlags v.flags)

/-- DEC (HL): one read, one write (R179). -/
def decAtHl (s : State) : Result :=
  let r := s.readAtHl
  let v := dec8 r.1 s.flagC
  finish 12 ((r.2.writeAtHl v.value).setFlags v.flags)

/-- DAA (R180). -/
def adjustDecimal (s : State) : Result :=
  let v := daaResult s.a s.flagN s.flagH s.flagC
  finish 4 ((s.setReg .a v.value).setFlags v.flags)

/-- CPL: Z and C are kept (R181; 90 C3). -/
def complementA (s : State) : Result :=
  finish 4 ((s.setReg .a (~~~s.a)).setFlags ⟨s.flagZ, true, true, s.flagC⟩)

/-- SCF: Z is kept (R182). -/
def setCarry (s : State) : Result :=
  finish 4 (s.setFlags ⟨s.flagZ, false, false, true⟩)

/-- CCF: Z is kept (R183). -/
def complementCarry (s : State) : Result :=
  finish 4 (s.setFlags ⟨s.flagZ, false, false, !s.flagC⟩)

/-! ## The rows -/

/-- R154: ADD A,d8 (C6). -/
def execAddAD8 (n : Byte) (s : State) : Result :=
  aluImm .add n s

/-- R157: ADC A,d8 (CE). -/
def execAdcAD8 (n : Byte) (s : State) : Result :=
  aluImm .adc n s

/-- R160: SUB d8 (D6). -/
def execSubD8 (n : Byte) (s : State) : Result :=
  aluImm .sub n s

/-- R163: SBC A,d8 (DE). -/
def execSbcAD8 (n : Byte) (s : State) : Result :=
  aluImm .sbc n s

/-- R166: AND d8 (E6). -/
def execAndD8 (n : Byte) (s : State) : Result :=
  aluImm .and n s

/-- R169: XOR d8 (EE). -/
def execXorD8 (n : Byte) (s : State) : Result :=
  aluImm .xor n s

/-- R172: OR d8 (F6). -/
def execOrD8 (n : Byte) (s : State) : Result :=
  aluImm .or n s

/-- R175: CP d8 (FE). -/
def execCpD8 (n : Byte) (s : State) : Result :=
  aluImm .cp n s

/-- R176: INC B (04). -/
def execIncB (s : State) : Result :=
  incReg .b s

/-- R178: DEC B (05). -/
def execDecB (s : State) : Result :=
  decReg .b s

/-- R176: INC C (0C). -/
def execIncC (s : State) : Result :=
  incReg .c s

/-- R178: DEC C (0D). -/
def execDecC (s : State) : Result :=
  decReg .c s

/-- R176: INC D (14). -/
def execIncD (s : State) : Result :=
  incReg .d s

/-- R178: DEC D (15). -/
def execDecD (s : State) : Result :=
  decReg .d s

/-- R176: INC E (1C). -/
def execIncE (s : State) : Result :=
  incReg .e s

/-- R178: DEC E (1D). -/
def execDecE (s : State) : Result :=
  decReg .e s

/-- R176: INC H (24). -/
def execIncH (s : State) : Result :=
  incReg .h s

/-- R178: DEC H (25). -/
def execDecH (s : State) : Result :=
  decReg .h s

/-- R180: DAA (27). -/
def execDaa (s : State) : Result :=
  adjustDecimal s

/-- R176: INC L (2C). -/
def execIncL (s : State) : Result :=
  incReg .l s

/-- R178: DEC L (2D). -/
def execDecL (s : State) : Result :=
  decReg .l s

/-- R181: CPL (2F). -/
def execCpl (s : State) : Result :=
  complementA s

/-- R177: INC (HL) (34). -/
def execIncAtHl (s : State) : Result :=
  incAtHl s

/-- R179: DEC (HL) (35). -/
def execDecAtHl (s : State) : Result :=
  decAtHl s

/-- R182: SCF (37). -/
def execScf (s : State) : Result :=
  setCarry s

/-- R176: INC A (3C). -/
def execIncA (s : State) : Result :=
  incReg .a s

/-- R178: DEC A (3D). -/
def execDecA (s : State) : Result :=
  decReg .a s

/-- R183: CCF (3F). -/
def execCcf (s : State) : Result :=
  complementCarry s

/-- R152: ADD A,B (80). -/
def execAddAB (s : State) : Result :=
  aluReg .add .b s

/-- R152: ADD A,C (81). -/
def execAddAC (s : State) : Result :=
  aluReg .add .c s

/-- R152: ADD A,D (82). -/
def execAddAD (s : State) : Result :=
  aluReg .add .d s

/-- R152: ADD A,E (83). -/
def execAddAE (s : State) : Result :=
  aluReg .add .e s

/-- R152: ADD A,H (84). -/
def execAddAH (s : State) : Result :=
  aluReg .add .h s

/-- R152: ADD A,L (85). -/
def execAddAL (s : State) : Result :=
  aluReg .add .l s

/-- R153: ADD A,(HL) (86). -/
def execAddAAtHl (s : State) : Result :=
  aluAtHl .add s

/-- R152: ADD A,A (87). -/
def execAddAA (s : State) : Result :=
  aluReg .add .a s

/-- R155: ADC A,B (88). -/
def execAdcAB (s : State) : Result :=
  aluReg .adc .b s

/-- R155: ADC A,C (89). -/
def execAdcAC (s : State) : Result :=
  aluReg .adc .c s

/-- R155: ADC A,D (8A). -/
def execAdcAD (s : State) : Result :=
  aluReg .adc .d s

/-- R155: ADC A,E (8B). -/
def execAdcAE (s : State) : Result :=
  aluReg .adc .e s

/-- R155: ADC A,H (8C). -/
def execAdcAH (s : State) : Result :=
  aluReg .adc .h s

/-- R155: ADC A,L (8D). -/
def execAdcAL (s : State) : Result :=
  aluReg .adc .l s

/-- R156: ADC A,(HL) (8E). -/
def execAdcAAtHl (s : State) : Result :=
  aluAtHl .adc s

/-- R155: ADC A,A (8F). -/
def execAdcAA (s : State) : Result :=
  aluReg .adc .a s

/-- R158: SUB B (90). -/
def execSubB (s : State) : Result :=
  aluReg .sub .b s

/-- R158: SUB C (91). -/
def execSubC (s : State) : Result :=
  aluReg .sub .c s

/-- R158: SUB D (92). -/
def execSubD (s : State) : Result :=
  aluReg .sub .d s

/-- R158: SUB E (93). -/
def execSubE (s : State) : Result :=
  aluReg .sub .e s

/-- R158: SUB H (94). -/
def execSubH (s : State) : Result :=
  aluReg .sub .h s

/-- R158: SUB L (95). -/
def execSubL (s : State) : Result :=
  aluReg .sub .l s

/-- R159: SUB (HL) (96). -/
def execSubAtHl (s : State) : Result :=
  aluAtHl .sub s

/-- R158: SUB A (97). -/
def execSubA (s : State) : Result :=
  aluReg .sub .a s

/-- R161: SBC A,B (98). -/
def execSbcAB (s : State) : Result :=
  aluReg .sbc .b s

/-- R161: SBC A,C (99). -/
def execSbcAC (s : State) : Result :=
  aluReg .sbc .c s

/-- R161: SBC A,D (9A). -/
def execSbcAD (s : State) : Result :=
  aluReg .sbc .d s

/-- R161: SBC A,E (9B). -/
def execSbcAE (s : State) : Result :=
  aluReg .sbc .e s

/-- R161: SBC A,H (9C). -/
def execSbcAH (s : State) : Result :=
  aluReg .sbc .h s

/-- R161: SBC A,L (9D). -/
def execSbcAL (s : State) : Result :=
  aluReg .sbc .l s

/-- R162: SBC A,(HL) (9E). -/
def execSbcAAtHl (s : State) : Result :=
  aluAtHl .sbc s

/-- R161: SBC A,A (9F). -/
def execSbcAA (s : State) : Result :=
  aluReg .sbc .a s

/-- R164: AND B (A0). -/
def execAndB (s : State) : Result :=
  aluReg .and .b s

/-- R164: AND C (A1). -/
def execAndC (s : State) : Result :=
  aluReg .and .c s

/-- R164: AND D (A2). -/
def execAndD (s : State) : Result :=
  aluReg .and .d s

/-- R164: AND E (A3). -/
def execAndE (s : State) : Result :=
  aluReg .and .e s

/-- R164: AND H (A4). -/
def execAndH (s : State) : Result :=
  aluReg .and .h s

/-- R164: AND L (A5). -/
def execAndL (s : State) : Result :=
  aluReg .and .l s

/-- R165: AND (HL) (A6). -/
def execAndAtHl (s : State) : Result :=
  aluAtHl .and s

/-- R164: AND A (A7). -/
def execAndA (s : State) : Result :=
  aluReg .and .a s

/-- R167: XOR B (A8). -/
def execXorB (s : State) : Result :=
  aluReg .xor .b s

/-- R167: XOR C (A9). -/
def execXorC (s : State) : Result :=
  aluReg .xor .c s

/-- R167: XOR D (AA). -/
def execXorD (s : State) : Result :=
  aluReg .xor .d s

/-- R167: XOR E (AB). -/
def execXorE (s : State) : Result :=
  aluReg .xor .e s

/-- R167: XOR H (AC). -/
def execXorH (s : State) : Result :=
  aluReg .xor .h s

/-- R167: XOR L (AD). -/
def execXorL (s : State) : Result :=
  aluReg .xor .l s

/-- R168: XOR (HL) (AE). -/
def execXorAtHl (s : State) : Result :=
  aluAtHl .xor s

/-- R167: XOR A (AF). -/
def execXorA (s : State) : Result :=
  aluReg .xor .a s

/-- R170: OR B (B0). -/
def execOrB (s : State) : Result :=
  aluReg .or .b s

/-- R170: OR C (B1). -/
def execOrC (s : State) : Result :=
  aluReg .or .c s

/-- R170: OR D (B2). -/
def execOrD (s : State) : Result :=
  aluReg .or .d s

/-- R170: OR E (B3). -/
def execOrE (s : State) : Result :=
  aluReg .or .e s

/-- R170: OR H (B4). -/
def execOrH (s : State) : Result :=
  aluReg .or .h s

/-- R170: OR L (B5). -/
def execOrL (s : State) : Result :=
  aluReg .or .l s

/-- R171: OR (HL) (B6). -/
def execOrAtHl (s : State) : Result :=
  aluAtHl .or s

/-- R170: OR A (B7). -/
def execOrA (s : State) : Result :=
  aluReg .or .a s

/-- R173: CP B (B8). -/
def execCpB (s : State) : Result :=
  aluReg .cp .b s

/-- R173: CP C (B9). -/
def execCpC (s : State) : Result :=
  aluReg .cp .c s

/-- R173: CP D (BA). -/
def execCpD (s : State) : Result :=
  aluReg .cp .d s

/-- R173: CP E (BB). -/
def execCpE (s : State) : Result :=
  aluReg .cp .e s

/-- R173: CP H (BC). -/
def execCpH (s : State) : Result :=
  aluReg .cp .h s

/-- R173: CP L (BD). -/
def execCpL (s : State) : Result :=
  aluReg .cp .l s

/-- R174: CP (HL) (BE). -/
def execCpAtHl (s : State) : Result :=
  aluAtHl .cp s

/-- R173: CP A (BF). -/
def execCpA (s : State) : Result :=
  aluReg .cp .a s

end Sys2Proof.Machine
end

