-- ==== Sys2Proof/Machine/Cb.lean ====
section
/-! DEFINITION. The meanings of the extended instructions (47_cb_prefixed.md): R250 to R272, and the prefix row (R286). Each starts after all the bytes of
its instruction have been fetched (R60), so PC is already past them. -/

namespace Sys2Proof.Machine

/-! ## Shared operations -/

/-- A rotate or shift of a register (R251 to R265). -/
def shiftReg (op : ShiftOp) (r : Reg) (s : State) : Result :=
  let v := shiftResult op (s.reg r) s.flagC
  finish 8 ((s.setReg r v.value).setFlags v.flags)

/-- A rotate or shift of the byte at HL: one read, then one write, whatever the result (R252 to R266). -/
def shiftAtHl (op : ShiftOp) (s : State) : Result :=
  let r := s.readAtHl
  let v := shiftResult op r.1 s.flagC
  finish 16 ((r.2.writeAtHl v.value).setFlags v.flags)

/-- BIT b,r: flags only (R267). -/
def bitTestReg (n : Fin 8) (r : Reg) (s : State) : Result :=
  finish 8 (s.setFlags (bitFlags n (s.reg r) s.flagC))

/-- BIT b,(HL): one read and no write (R268). -/
def bitTestAtHl (n : Fin 8) (s : State) : Result :=
  let r := s.readAtHl
  finish 12 (r.2.setFlags (bitFlags n r.1 s.flagC))

/-- RES b,r (R269). -/
def bitResetReg (n : Fin 8) (r : Reg) (s : State) : Result :=
  finish 8 (s.setReg r (resBit n (s.reg r)))

/-- RES b,(HL): it always writes (R270). -/
def bitResetAtHl (n : Fin 8) (s : State) : Result :=
  let r := s.readAtHl
  finish 16 (r.2.writeAtHl (resBit n r.1))

/-- SET b,r (R271). -/
def bitSetReg (n : Fin 8) (r : Reg) (s : State) : Result :=
  finish 8 (s.setReg r (setBit n (s.reg r)))

/-- SET b,(HL): it always writes (R272). -/
def bitSetAtHl (n : Fin 8) (s : State) : Result :=
  let r := s.readAtHl
  finish 16 (r.2.writeAtHl (setBit n r.1))

/-- `ExecCB(op2)`: the extended row by the fields of its opcode (R83, R250). -/
def execExtended (op2 : Byte) (s : State) : Result :=
  match fieldX op2, operandOfCode (fieldZ op2) with
  | 0, .reg r => shiftReg (shiftOfCode (fieldY op2)) r s
  | 0, .atHl => shiftAtHl (shiftOfCode (fieldY op2)) s
  | 1, .reg r => bitTestReg (fieldBit op2) r s
  | 1, .atHl => bitTestAtHl (fieldBit op2) s
  | 2, .reg r => bitResetReg (fieldBit op2) r s
  | 2, .atHl => bitResetAtHl (fieldBit op2) s
  | _, .reg r => bitSetReg (fieldBit op2) r s
  | _, .atHl => bitSetAtHl (fieldBit op2) s

/-! ## The rows -/

/-- R286: PREFIX CB (CB). -/
def execPrefixCb (op2 : Byte) (s : State) : Result :=
  execExtended op2 s

/-- R251: RLC B (CB 00). -/
def execRlcB (s : State) : Result :=
  shiftReg .rlc .b s

/-- R251: RLC C (CB 01). -/
def execRlcC (s : State) : Result :=
  shiftReg .rlc .c s

/-- R251: RLC D (CB 02). -/
def execRlcD (s : State) : Result :=
  shiftReg .rlc .d s

/-- R251: RLC E (CB 03). -/
def execRlcE (s : State) : Result :=
  shiftReg .rlc .e s

/-- R251: RLC H (CB 04). -/
def execRlcH (s : State) : Result :=
  shiftReg .rlc .h s

/-- R251: RLC L (CB 05). -/
def execRlcL (s : State) : Result :=
  shiftReg .rlc .l s

/-- R252: RLC (HL) (CB 06). -/
def execRlcAtHl (s : State) : Result :=
  shiftAtHl .rlc s

/-- R251: RLC A (CB 07). -/
def execRlcA (s : State) : Result :=
  shiftReg .rlc .a s

/-- R253: RRC B (CB 08). -/
def execRrcB (s : State) : Result :=
  shiftReg .rrc .b s

/-- R253: RRC C (CB 09). -/
def execRrcC (s : State) : Result :=
  shiftReg .rrc .c s

/-- R253: RRC D (CB 0A). -/
def execRrcD (s : State) : Result :=
  shiftReg .rrc .d s

/-- R253: RRC E (CB 0B). -/
def execRrcE (s : State) : Result :=
  shiftReg .rrc .e s

/-- R253: RRC H (CB 0C). -/
def execRrcH (s : State) : Result :=
  shiftReg .rrc .h s

/-- R253: RRC L (CB 0D). -/
def execRrcL (s : State) : Result :=
  shiftReg .rrc .l s

/-- R254: RRC (HL) (CB 0E). -/
def execRrcAtHl (s : State) : Result :=
  shiftAtHl .rrc s

/-- R253: RRC A (CB 0F). -/
def execRrcA (s : State) : Result :=
  shiftReg .rrc .a s

/-- R255: RL B (CB 10). -/
def execRlB (s : State) : Result :=
  shiftReg .rl .b s

/-- R255: RL C (CB 11). -/
def execRlC (s : State) : Result :=
  shiftReg .rl .c s

/-- R255: RL D (CB 12). -/
def execRlD (s : State) : Result :=
  shiftReg .rl .d s

/-- R255: RL E (CB 13). -/
def execRlE (s : State) : Result :=
  shiftReg .rl .e s

/-- R255: RL H (CB 14). -/
def execRlH (s : State) : Result :=
  shiftReg .rl .h s

/-- R255: RL L (CB 15). -/
def execRlL (s : State) : Result :=
  shiftReg .rl .l s

/-- R256: RL (HL) (CB 16). -/
def execRlAtHl (s : State) : Result :=
  shiftAtHl .rl s

/-- R255: RL A (CB 17). -/
def execRlA (s : State) : Result :=
  shiftReg .rl .a s

/-- R257: RR B (CB 18). -/
def execRrB (s : State) : Result :=
  shiftReg .rr .b s

/-- R257: RR C (CB 19). -/
def execRrC (s : State) : Result :=
  shiftReg .rr .c s

/-- R257: RR D (CB 1A). -/
def execRrD (s : State) : Result :=
  shiftReg .rr .d s

/-- R257: RR E (CB 1B). -/
def execRrE (s : State) : Result :=
  shiftReg .rr .e s

/-- R257: RR H (CB 1C). -/
def execRrH (s : State) : Result :=
  shiftReg .rr .h s

/-- R257: RR L (CB 1D). -/
def execRrL (s : State) : Result :=
  shiftReg .rr .l s

/-- R258: RR (HL) (CB 1E). -/
def execRrAtHl (s : State) : Result :=
  shiftAtHl .rr s

/-- R257: RR A (CB 1F). -/
def execRrA (s : State) : Result :=
  shiftReg .rr .a s

/-- R259: SLA B (CB 20). -/
def execSlaB (s : State) : Result :=
  shiftReg .sla .b s

/-- R259: SLA C (CB 21). -/
def execSlaC (s : State) : Result :=
  shiftReg .sla .c s

/-- R259: SLA D (CB 22). -/
def execSlaD (s : State) : Result :=
  shiftReg .sla .d s

/-- R259: SLA E (CB 23). -/
def execSlaE (s : State) : Result :=
  shiftReg .sla .e s

/-- R259: SLA H (CB 24). -/
def execSlaH (s : State) : Result :=
  shiftReg .sla .h s

/-- R259: SLA L (CB 25). -/
def execSlaL (s : State) : Result :=
  shiftReg .sla .l s

/-- R260: SLA (HL) (CB 26). -/
def execSlaAtHl (s : State) : Result :=
  shiftAtHl .sla s

/-- R259: SLA A (CB 27). -/
def execSlaA (s : State) : Result :=
  shiftReg .sla .a s

/-- R261: SRA B (CB 28). -/
def execSraB (s : State) : Result :=
  shiftReg .sra .b s

/-- R261: SRA C (CB 29). -/
def execSraC (s : State) : Result :=
  shiftReg .sra .c s

/-- R261: SRA D (CB 2A). -/
def execSraD (s : State) : Result :=
  shiftReg .sra .d s

/-- R261: SRA E (CB 2B). -/
def execSraE (s : State) : Result :=
  shiftReg .sra .e s

/-- R261: SRA H (CB 2C). -/
def execSraH (s : State) : Result :=
  shiftReg .sra .h s

/-- R261: SRA L (CB 2D). -/
def execSraL (s : State) : Result :=
  shiftReg .sra .l s

/-- R262: SRA (HL) (CB 2E). -/
def execSraAtHl (s : State) : Result :=
  shiftAtHl .sra s

/-- R261: SRA A (CB 2F). -/
def execSraA (s : State) : Result :=
  shiftReg .sra .a s

/-- R263: SWAP B (CB 30). -/
def execSwapB (s : State) : Result :=
  shiftReg .swap .b s

/-- R263: SWAP C (CB 31). -/
def execSwapC (s : State) : Result :=
  shiftReg .swap .c s

/-- R263: SWAP D (CB 32). -/
def execSwapD (s : State) : Result :=
  shiftReg .swap .d s

/-- R263: SWAP E (CB 33). -/
def execSwapE (s : State) : Result :=
  shiftReg .swap .e s

/-- R263: SWAP H (CB 34). -/
def execSwapH (s : State) : Result :=
  shiftReg .swap .h s

/-- R263: SWAP L (CB 35). -/
def execSwapL (s : State) : Result :=
  shiftReg .swap .l s

/-- R264: SWAP (HL) (CB 36). -/
def execSwapAtHl (s : State) : Result :=
  shiftAtHl .swap s

/-- R263: SWAP A (CB 37). -/
def execSwapA (s : State) : Result :=
  shiftReg .swap .a s

/-- R265: SRL B (CB 38). -/
def execSrlB (s : State) : Result :=
  shiftReg .srl .b s

/-- R265: SRL C (CB 39). -/
def execSrlC (s : State) : Result :=
  shiftReg .srl .c s

/-- R265: SRL D (CB 3A). -/
def execSrlD (s : State) : Result :=
  shiftReg .srl .d s

/-- R265: SRL E (CB 3B). -/
def execSrlE (s : State) : Result :=
  shiftReg .srl .e s

/-- R265: SRL H (CB 3C). -/
def execSrlH (s : State) : Result :=
  shiftReg .srl .h s

/-- R265: SRL L (CB 3D). -/
def execSrlL (s : State) : Result :=
  shiftReg .srl .l s

/-- R266: SRL (HL) (CB 3E). -/
def execSrlAtHl (s : State) : Result :=
  shiftAtHl .srl s

/-- R265: SRL A (CB 3F). -/
def execSrlA (s : State) : Result :=
  shiftReg .srl .a s

/-- R267: BIT 0,B (CB 40). -/
def execBit0B (s : State) : Result :=
  bitTestReg 0 .b s

/-- R267: BIT 0,C (CB 41). -/
def execBit0C (s : State) : Result :=
  bitTestReg 0 .c s

/-- R267: BIT 0,D (CB 42). -/
def execBit0D (s : State) : Result :=
  bitTestReg 0 .d s

/-- R267: BIT 0,E (CB 43). -/
def execBit0E (s : State) : Result :=
  bitTestReg 0 .e s

/-- R267: BIT 0,H (CB 44). -/
def execBit0H (s : State) : Result :=
  bitTestReg 0 .h s

/-- R267: BIT 0,L (CB 45). -/
def execBit0L (s : State) : Result :=
  bitTestReg 0 .l s

/-- R268: BIT 0,(HL) (CB 46). -/
def execBit0AtHl (s : State) : Result :=
  bitTestAtHl 0 s

/-- R267: BIT 0,A (CB 47). -/
def execBit0A (s : State) : Result :=
  bitTestReg 0 .a s

/-- R267: BIT 1,B (CB 48). -/
def execBit1B (s : State) : Result :=
  bitTestReg 1 .b s

/-- R267: BIT 1,C (CB 49). -/
def execBit1C (s : State) : Result :=
  bitTestReg 1 .c s

/-- R267: BIT 1,D (CB 4A). -/
def execBit1D (s : State) : Result :=
  bitTestReg 1 .d s

/-- R267: BIT 1,E (CB 4B). -/
def execBit1E (s : State) : Result :=
  bitTestReg 1 .e s

/-- R267: BIT 1,H (CB 4C). -/
def execBit1H (s : State) : Result :=
  bitTestReg 1 .h s

/-- R267: BIT 1,L (CB 4D). -/
def execBit1L (s : State) : Result :=
  bitTestReg 1 .l s

/-- R268: BIT 1,(HL) (CB 4E). -/
def execBit1AtHl (s : State) : Result :=
  bitTestAtHl 1 s

/-- R267: BIT 1,A (CB 4F). -/
def execBit1A (s : State) : Result :=
  bitTestReg 1 .a s

/-- R267: BIT 2,B (CB 50). -/
def execBit2B (s : State) : Result :=
  bitTestReg 2 .b s

/-- R267: BIT 2,C (CB 51). -/
def execBit2C (s : State) : Result :=
  bitTestReg 2 .c s

/-- R267: BIT 2,D (CB 52). -/
def execBit2D (s : State) : Result :=
  bitTestReg 2 .d s

/-- R267: BIT 2,E (CB 53). -/
def execBit2E (s : State) : Result :=
  bitTestReg 2 .e s

/-- R267: BIT 2,H (CB 54). -/
def execBit2H (s : State) : Result :=
  bitTestReg 2 .h s

/-- R267: BIT 2,L (CB 55). -/
def execBit2L (s : State) : Result :=
  bitTestReg 2 .l s

/-- R268: BIT 2,(HL) (CB 56). -/
def execBit2AtHl (s : State) : Result :=
  bitTestAtHl 2 s

/-- R267: BIT 2,A (CB 57). -/
def execBit2A (s : State) : Result :=
  bitTestReg 2 .a s

/-- R267: BIT 3,B (CB 58). -/
def execBit3B (s : State) : Result :=
  bitTestReg 3 .b s

/-- R267: BIT 3,C (CB 59). -/
def execBit3C (s : State) : Result :=
  bitTestReg 3 .c s

/-- R267: BIT 3,D (CB 5A). -/
def execBit3D (s : State) : Result :=
  bitTestReg 3 .d s

/-- R267: BIT 3,E (CB 5B). -/
def execBit3E (s : State) : Result :=
  bitTestReg 3 .e s

/-- R267: BIT 3,H (CB 5C). -/
def execBit3H (s : State) : Result :=
  bitTestReg 3 .h s

/-- R267: BIT 3,L (CB 5D). -/
def execBit3L (s : State) : Result :=
  bitTestReg 3 .l s

/-- R268: BIT 3,(HL) (CB 5E). -/
def execBit3AtHl (s : State) : Result :=
  bitTestAtHl 3 s

/-- R267: BIT 3,A (CB 5F). -/
def execBit3A (s : State) : Result :=
  bitTestReg 3 .a s

/-- R267: BIT 4,B (CB 60). -/
def execBit4B (s : State) : Result :=
  bitTestReg 4 .b s

/-- R267: BIT 4,C (CB 61). -/
def execBit4C (s : State) : Result :=
  bitTestReg 4 .c s

/-- R267: BIT 4,D (CB 62). -/
def execBit4D (s : State) : Result :=
  bitTestReg 4 .d s

/-- R267: BIT 4,E (CB 63). -/
def execBit4E (s : State) : Result :=
  bitTestReg 4 .e s

/-- R267: BIT 4,H (CB 64). -/
def execBit4H (s : State) : Result :=
  bitTestReg 4 .h s

/-- R267: BIT 4,L (CB 65). -/
def execBit4L (s : State) : Result :=
  bitTestReg 4 .l s

/-- R268: BIT 4,(HL) (CB 66). -/
def execBit4AtHl (s : State) : Result :=
  bitTestAtHl 4 s

/-- R267: BIT 4,A (CB 67). -/
def execBit4A (s : State) : Result :=
  bitTestReg 4 .a s

/-- R267: BIT 5,B (CB 68). -/
def execBit5B (s : State) : Result :=
  bitTestReg 5 .b s

/-- R267: BIT 5,C (CB 69). -/
def execBit5C (s : State) : Result :=
  bitTestReg 5 .c s

/-- R267: BIT 5,D (CB 6A). -/
def execBit5D (s : State) : Result :=
  bitTestReg 5 .d s

/-- R267: BIT 5,E (CB 6B). -/
def execBit5E (s : State) : Result :=
  bitTestReg 5 .e s

/-- R267: BIT 5,H (CB 6C). -/
def execBit5H (s : State) : Result :=
  bitTestReg 5 .h s

/-- R267: BIT 5,L (CB 6D). -/
def execBit5L (s : State) : Result :=
  bitTestReg 5 .l s

/-- R268: BIT 5,(HL) (CB 6E). -/
def execBit5AtHl (s : State) : Result :=
  bitTestAtHl 5 s

/-- R267: BIT 5,A (CB 6F). -/
def execBit5A (s : State) : Result :=
  bitTestReg 5 .a s

/-- R267: BIT 6,B (CB 70). -/
def execBit6B (s : State) : Result :=
  bitTestReg 6 .b s

/-- R267: BIT 6,C (CB 71). -/
def execBit6C (s : State) : Result :=
  bitTestReg 6 .c s

/-- R267: BIT 6,D (CB 72). -/
def execBit6D (s : State) : Result :=
  bitTestReg 6 .d s

/-- R267: BIT 6,E (CB 73). -/
def execBit6E (s : State) : Result :=
  bitTestReg 6 .e s

/-- R267: BIT 6,H (CB 74). -/
def execBit6H (s : State) : Result :=
  bitTestReg 6 .h s

/-- R267: BIT 6,L (CB 75). -/
def execBit6L (s : State) : Result :=
  bitTestReg 6 .l s

/-- R268: BIT 6,(HL) (CB 76). -/
def execBit6AtHl (s : State) : Result :=
  bitTestAtHl 6 s

/-- R267: BIT 6,A (CB 77). -/
def execBit6A (s : State) : Result :=
  bitTestReg 6 .a s

/-- R267: BIT 7,B (CB 78). -/
def execBit7B (s : State) : Result :=
  bitTestReg 7 .b s

/-- R267: BIT 7,C (CB 79). -/
def execBit7C (s : State) : Result :=
  bitTestReg 7 .c s

/-- R267: BIT 7,D (CB 7A). -/
def execBit7D (s : State) : Result :=
  bitTestReg 7 .d s

/-- R267: BIT 7,E (CB 7B). -/
def execBit7E (s : State) : Result :=
  bitTestReg 7 .e s

/-- R267: BIT 7,H (CB 7C). -/
def execBit7H (s : State) : Result :=
  bitTestReg 7 .h s

/-- R267: BIT 7,L (CB 7D). -/
def execBit7L (s : State) : Result :=
  bitTestReg 7 .l s

/-- R268: BIT 7,(HL) (CB 7E). -/
def execBit7AtHl (s : State) : Result :=
  bitTestAtHl 7 s

/-- R267: BIT 7,A (CB 7F). -/
def execBit7A (s : State) : Result :=
  bitTestReg 7 .a s

/-- R269: RES 0,B (CB 80). -/
def execRes0B (s : State) : Result :=
  bitResetReg 0 .b s

/-- R269: RES 0,C (CB 81). -/
def execRes0C (s : State) : Result :=
  bitResetReg 0 .c s

/-- R269: RES 0,D (CB 82). -/
def execRes0D (s : State) : Result :=
  bitResetReg 0 .d s

/-- R269: RES 0,E (CB 83). -/
def execRes0E (s : State) : Result :=
  bitResetReg 0 .e s

/-- R269: RES 0,H (CB 84). -/
def execRes0H (s : State) : Result :=
  bitResetReg 0 .h s

/-- R269: RES 0,L (CB 85). -/
def execRes0L (s : State) : Result :=
  bitResetReg 0 .l s

/-- R270: RES 0,(HL) (CB 86). -/
def execRes0AtHl (s : State) : Result :=
  bitResetAtHl 0 s

/-- R269: RES 0,A (CB 87). -/
def execRes0A (s : State) : Result :=
  bitResetReg 0 .a s

/-- R269: RES 1,B (CB 88). -/
def execRes1B (s : State) : Result :=
  bitResetReg 1 .b s

/-- R269: RES 1,C (CB 89). -/
def execRes1C (s : State) : Result :=
  bitResetReg 1 .c s

/-- R269: RES 1,D (CB 8A). -/
def execRes1D (s : State) : Result :=
  bitResetReg 1 .d s

/-- R269: RES 1,E (CB 8B). -/
def execRes1E (s : State) : Result :=
  bitResetReg 1 .e s

/-- R269: RES 1,H (CB 8C). -/
def execRes1H (s : State) : Result :=
  bitResetReg 1 .h s

/-- R269: RES 1,L (CB 8D). -/
def execRes1L (s : State) : Result :=
  bitResetReg 1 .l s

/-- R270: RES 1,(HL) (CB 8E). -/
def execRes1AtHl (s : State) : Result :=
  bitResetAtHl 1 s

/-- R269: RES 1,A (CB 8F). -/
def execRes1A (s : State) : Result :=
  bitResetReg 1 .a s

/-- R269: RES 2,B (CB 90). -/
def execRes2B (s : State) : Result :=
  bitResetReg 2 .b s

/-- R269: RES 2,C (CB 91). -/
def execRes2C (s : State) : Result :=
  bitResetReg 2 .c s

/-- R269: RES 2,D (CB 92). -/
def execRes2D (s : State) : Result :=
  bitResetReg 2 .d s

/-- R269: RES 2,E (CB 93). -/
def execRes2E (s : State) : Result :=
  bitResetReg 2 .e s

/-- R269: RES 2,H (CB 94). -/
def execRes2H (s : State) : Result :=
  bitResetReg 2 .h s

/-- R269: RES 2,L (CB 95). -/
def execRes2L (s : State) : Result :=
  bitResetReg 2 .l s

/-- R270: RES 2,(HL) (CB 96). -/
def execRes2AtHl (s : State) : Result :=
  bitResetAtHl 2 s

/-- R269: RES 2,A (CB 97). -/
def execRes2A (s : State) : Result :=
  bitResetReg 2 .a s

/-- R269: RES 3,B (CB 98). -/
def execRes3B (s : State) : Result :=
  bitResetReg 3 .b s

/-- R269: RES 3,C (CB 99). -/
def execRes3C (s : State) : Result :=
  bitResetReg 3 .c s

/-- R269: RES 3,D (CB 9A). -/
def execRes3D (s : State) : Result :=
  bitResetReg 3 .d s

/-- R269: RES 3,E (CB 9B). -/
def execRes3E (s : State) : Result :=
  bitResetReg 3 .e s

/-- R269: RES 3,H (CB 9C). -/
def execRes3H (s : State) : Result :=
  bitResetReg 3 .h s

/-- R269: RES 3,L (CB 9D). -/
def execRes3L (s : State) : Result :=
  bitResetReg 3 .l s

/-- R270: RES 3,(HL) (CB 9E). -/
def execRes3AtHl (s : State) : Result :=
  bitResetAtHl 3 s

/-- R269: RES 3,A (CB 9F). -/
def execRes3A (s : State) : Result :=
  bitResetReg 3 .a s

/-- R269: RES 4,B (CB A0). -/
def execRes4B (s : State) : Result :=
  bitResetReg 4 .b s

/-- R269: RES 4,C (CB A1). -/
def execRes4C (s : State) : Result :=
  bitResetReg 4 .c s

/-- R269: RES 4,D (CB A2). -/
def execRes4D (s : State) : Result :=
  bitResetReg 4 .d s

/-- R269: RES 4,E (CB A3). -/
def execRes4E (s : State) : Result :=
  bitResetReg 4 .e s

/-- R269: RES 4,H (CB A4). -/
def execRes4H (s : State) : Result :=
  bitResetReg 4 .h s

/-- R269: RES 4,L (CB A5). -/
def execRes4L (s : State) : Result :=
  bitResetReg 4 .l s

/-- R270: RES 4,(HL) (CB A6). -/
def execRes4AtHl (s : State) : Result :=
  bitResetAtHl 4 s

/-- R269: RES 4,A (CB A7). -/
def execRes4A (s : State) : Result :=
  bitResetReg 4 .a s

/-- R269: RES 5,B (CB A8). -/
def execRes5B (s : State) : Result :=
  bitResetReg 5 .b s

/-- R269: RES 5,C (CB A9). -/
def execRes5C (s : State) : Result :=
  bitResetReg 5 .c s

/-- R269: RES 5,D (CB AA). -/
def execRes5D (s : State) : Result :=
  bitResetReg 5 .d s

/-- R269: RES 5,E (CB AB). -/
def execRes5E (s : State) : Result :=
  bitResetReg 5 .e s

/-- R269: RES 5,H (CB AC). -/
def execRes5H (s : State) : Result :=
  bitResetReg 5 .h s

/-- R269: RES 5,L (CB AD). -/
def execRes5L (s : State) : Result :=
  bitResetReg 5 .l s

/-- R270: RES 5,(HL) (CB AE). -/
def execRes5AtHl (s : State) : Result :=
  bitResetAtHl 5 s

/-- R269: RES 5,A (CB AF). -/
def execRes5A (s : State) : Result :=
  bitResetReg 5 .a s

/-- R269: RES 6,B (CB B0). -/
def execRes6B (s : State) : Result :=
  bitResetReg 6 .b s

/-- R269: RES 6,C (CB B1). -/
def execRes6C (s : State) : Result :=
  bitResetReg 6 .c s

/-- R269: RES 6,D (CB B2). -/
def execRes6D (s : State) : Result :=
  bitResetReg 6 .d s

/-- R269: RES 6,E (CB B3). -/
def execRes6E (s : State) : Result :=
  bitResetReg 6 .e s

/-- R269: RES 6,H (CB B4). -/
def execRes6H (s : State) : Result :=
  bitResetReg 6 .h s

/-- R269: RES 6,L (CB B5). -/
def execRes6L (s : State) : Result :=
  bitResetReg 6 .l s

/-- R270: RES 6,(HL) (CB B6). -/
def execRes6AtHl (s : State) : Result :=
  bitResetAtHl 6 s

/-- R269: RES 6,A (CB B7). -/
def execRes6A (s : State) : Result :=
  bitResetReg 6 .a s

/-- R269: RES 7,B (CB B8). -/
def execRes7B (s : State) : Result :=
  bitResetReg 7 .b s

/-- R269: RES 7,C (CB B9). -/
def execRes7C (s : State) : Result :=
  bitResetReg 7 .c s

/-- R269: RES 7,D (CB BA). -/
def execRes7D (s : State) : Result :=
  bitResetReg 7 .d s

/-- R269: RES 7,E (CB BB). -/
def execRes7E (s : State) : Result :=
  bitResetReg 7 .e s

/-- R269: RES 7,H (CB BC). -/
def execRes7H (s : State) : Result :=
  bitResetReg 7 .h s

/-- R269: RES 7,L (CB BD). -/
def execRes7L (s : State) : Result :=
  bitResetReg 7 .l s

/-- R270: RES 7,(HL) (CB BE). -/
def execRes7AtHl (s : State) : Result :=
  bitResetAtHl 7 s

/-- R269: RES 7,A (CB BF). -/
def execRes7A (s : State) : Result :=
  bitResetReg 7 .a s

/-- R271: SET 0,B (CB C0). -/
def execSet0B (s : State) : Result :=
  bitSetReg 0 .b s

/-- R271: SET 0,C (CB C1). -/
def execSet0C (s : State) : Result :=
  bitSetReg 0 .c s

/-- R271: SET 0,D (CB C2). -/
def execSet0D (s : State) : Result :=
  bitSetReg 0 .d s

/-- R271: SET 0,E (CB C3). -/
def execSet0E (s : State) : Result :=
  bitSetReg 0 .e s

/-- R271: SET 0,H (CB C4). -/
def execSet0H (s : State) : Result :=
  bitSetReg 0 .h s

/-- R271: SET 0,L (CB C5). -/
def execSet0L (s : State) : Result :=
  bitSetReg 0 .l s

/-- R272: SET 0,(HL) (CB C6). -/
def execSet0AtHl (s : State) : Result :=
  bitSetAtHl 0 s

/-- R271: SET 0,A (CB C7). -/
def execSet0A (s : State) : Result :=
  bitSetReg 0 .a s

/-- R271: SET 1,B (CB C8). -/
def execSet1B (s : State) : Result :=
  bitSetReg 1 .b s

/-- R271: SET 1,C (CB C9). -/
def execSet1C (s : State) : Result :=
  bitSetReg 1 .c s

/-- R271: SET 1,D (CB CA). -/
def execSet1D (s : State) : Result :=
  bitSetReg 1 .d s

/-- R271: SET 1,E (CB CB). -/
def execSet1E (s : State) : Result :=
  bitSetReg 1 .e s

/-- R271: SET 1,H (CB CC). -/
def execSet1H (s : State) : Result :=
  bitSetReg 1 .h s

/-- R271: SET 1,L (CB CD). -/
def execSet1L (s : State) : Result :=
  bitSetReg 1 .l s

/-- R272: SET 1,(HL) (CB CE). -/
def execSet1AtHl (s : State) : Result :=
  bitSetAtHl 1 s

/-- R271: SET 1,A (CB CF). -/
def execSet1A (s : State) : Result :=
  bitSetReg 1 .a s

/-- R271: SET 2,B (CB D0). -/
def execSet2B (s : State) : Result :=
  bitSetReg 2 .b s

/-- R271: SET 2,C (CB D1). -/
def execSet2C (s : State) : Result :=
  bitSetReg 2 .c s

/-- R271: SET 2,D (CB D2). -/
def execSet2D (s : State) : Result :=
  bitSetReg 2 .d s

/-- R271: SET 2,E (CB D3). -/
def execSet2E (s : State) : Result :=
  bitSetReg 2 .e s

/-- R271: SET 2,H (CB D4). -/
def execSet2H (s : State) : Result :=
  bitSetReg 2 .h s

/-- R271: SET 2,L (CB D5). -/
def execSet2L (s : State) : Result :=
  bitSetReg 2 .l s

/-- R272: SET 2,(HL) (CB D6). -/
def execSet2AtHl (s : State) : Result :=
  bitSetAtHl 2 s

/-- R271: SET 2,A (CB D7). -/
def execSet2A (s : State) : Result :=
  bitSetReg 2 .a s

/-- R271: SET 3,B (CB D8). -/
def execSet3B (s : State) : Result :=
  bitSetReg 3 .b s

/-- R271: SET 3,C (CB D9). -/
def execSet3C (s : State) : Result :=
  bitSetReg 3 .c s

/-- R271: SET 3,D (CB DA). -/
def execSet3D (s : State) : Result :=
  bitSetReg 3 .d s

/-- R271: SET 3,E (CB DB). -/
def execSet3E (s : State) : Result :=
  bitSetReg 3 .e s

/-- R271: SET 3,H (CB DC). -/
def execSet3H (s : State) : Result :=
  bitSetReg 3 .h s

/-- R271: SET 3,L (CB DD). -/
def execSet3L (s : State) : Result :=
  bitSetReg 3 .l s

/-- R272: SET 3,(HL) (CB DE). -/
def execSet3AtHl (s : State) : Result :=
  bitSetAtHl 3 s

/-- R271: SET 3,A (CB DF). -/
def execSet3A (s : State) : Result :=
  bitSetReg 3 .a s

/-- R271: SET 4,B (CB E0). -/
def execSet4B (s : State) : Result :=
  bitSetReg 4 .b s

/-- R271: SET 4,C (CB E1). -/
def execSet4C (s : State) : Result :=
  bitSetReg 4 .c s

/-- R271: SET 4,D (CB E2). -/
def execSet4D (s : State) : Result :=
  bitSetReg 4 .d s

/-- R271: SET 4,E (CB E3). -/
def execSet4E (s : State) : Result :=
  bitSetReg 4 .e s

/-- R271: SET 4,H (CB E4). -/
def execSet4H (s : State) : Result :=
  bitSetReg 4 .h s

/-- R271: SET 4,L (CB E5). -/
def execSet4L (s : State) : Result :=
  bitSetReg 4 .l s

/-- R272: SET 4,(HL) (CB E6). -/
def execSet4AtHl (s : State) : Result :=
  bitSetAtHl 4 s

/-- R271: SET 4,A (CB E7). -/
def execSet4A (s : State) : Result :=
  bitSetReg 4 .a s

/-- R271: SET 5,B (CB E8). -/
def execSet5B (s : State) : Result :=
  bitSetReg 5 .b s

/-- R271: SET 5,C (CB E9). -/
def execSet5C (s : State) : Result :=
  bitSetReg 5 .c s

/-- R271: SET 5,D (CB EA). -/
def execSet5D (s : State) : Result :=
  bitSetReg 5 .d s

/-- R271: SET 5,E (CB EB). -/
def execSet5E (s : State) : Result :=
  bitSetReg 5 .e s

/-- R271: SET 5,H (CB EC). -/
def execSet5H (s : State) : Result :=
  bitSetReg 5 .h s

/-- R271: SET 5,L (CB ED). -/
def execSet5L (s : State) : Result :=
  bitSetReg 5 .l s

/-- R272: SET 5,(HL) (CB EE). -/
def execSet5AtHl (s : State) : Result :=
  bitSetAtHl 5 s

/-- R271: SET 5,A (CB EF). -/
def execSet5A (s : State) : Result :=
  bitSetReg 5 .a s

/-- R271: SET 6,B (CB F0). -/
def execSet6B (s : State) : Result :=
  bitSetReg 6 .b s

/-- R271: SET 6,C (CB F1). -/
def execSet6C (s : State) : Result :=
  bitSetReg 6 .c s

/-- R271: SET 6,D (CB F2). -/
def execSet6D (s : State) : Result :=
  bitSetReg 6 .d s

/-- R271: SET 6,E (CB F3). -/
def execSet6E (s : State) : Result :=
  bitSetReg 6 .e s

/-- R271: SET 6,H (CB F4). -/
def execSet6H (s : State) : Result :=
  bitSetReg 6 .h s

/-- R271: SET 6,L (CB F5). -/
def execSet6L (s : State) : Result :=
  bitSetReg 6 .l s

/-- R272: SET 6,(HL) (CB F6). -/
def execSet6AtHl (s : State) : Result :=
  bitSetAtHl 6 s

/-- R271: SET 6,A (CB F7). -/
def execSet6A (s : State) : Result :=
  bitSetReg 6 .a s

/-- R271: SET 7,B (CB F8). -/
def execSet7B (s : State) : Result :=
  bitSetReg 7 .b s

/-- R271: SET 7,C (CB F9). -/
def execSet7C (s : State) : Result :=
  bitSetReg 7 .c s

/-- R271: SET 7,D (CB FA). -/
def execSet7D (s : State) : Result :=
  bitSetReg 7 .d s

/-- R271: SET 7,E (CB FB). -/
def execSet7E (s : State) : Result :=
  bitSetReg 7 .e s

/-- R271: SET 7,H (CB FC). -/
def execSet7H (s : State) : Result :=
  bitSetReg 7 .h s

/-- R271: SET 7,L (CB FD). -/
def execSet7L (s : State) : Result :=
  bitSetReg 7 .l s

/-- R272: SET 7,(HL) (CB FE). -/
def execSet7AtHl (s : State) : Result :=
  bitSetAtHl 7 s

/-- R271: SET 7,A (CB FF). -/
def execSet7A (s : State) : Result :=
  bitSetReg 7 .a s

end Sys2Proof.Machine
end

