-- ==== Sys2Proof/Machine/Control.lean ====
section
/-! DEFINITION. The meanings of control transfer (44_control.md): R200 to R214. None writes a flag (R200). Each starts after all the bytes of
its instruction have been fetched (R60), so PC is already past them. -/

namespace Sys2Proof.Machine

/-! ## Shared operations -/

/-- `PC <- target` (R202, R204, R205). -/
def jump (cost : Nat) (target : Word) (s : State) : Result :=
  finish cost (s.setPc target)

/-- A conditional jump, its operand bytes already fetched (R201, R203, R206). -/
def jumpIf (cc : Cond) (costTaken cost : Nat) (target : Word) (s : State) : Result :=
  if s.cond cc then jump costTaken target s else finish cost s

/-- `Push16(PC); PC <- target` (R207, R212). -/
def call (cost : Nat) (target : Word) (s : State) : Result :=
  finish cost ((s.push16 s.pc).setPc target)

/-- CALL cc,a16, its operand bytes already fetched (R201, R208). -/
def callIf (cc : Cond) (target : Word) (s : State) : Result :=
  if s.cond cc then call 24 target s else finish 12 s

/-- `PC <- Pop16()` (R209). -/
def returnPop (cost : Nat) (s : State) : Result :=
  let r := s.pop16
  finish cost (r.2.setPc r.1)

/-- RET cc (R201, R210). -/
def returnIf (cc : Cond) (s : State) : Result :=
  if s.cond cc then returnPop 20 s else finish 8 s

/-! ## The rows -/

/-- R205: JR e8 (18). -/
def execJrE8 (e : Byte) (s : State) : Result :=
  jump 12 (s.relativeTarget e) s

/-- R206: JR NZ,e8 (20). -/
def execJrNzE8 (e : Byte) (s : State) : Result :=
  jumpIf .nz 12 8 (s.relativeTarget e) s

/-- R206: JR Z,e8 (28). -/
def execJrZE8 (e : Byte) (s : State) : Result :=
  jumpIf .z 12 8 (s.relativeTarget e) s

/-- R206: JR NC,e8 (30). -/
def execJrNcE8 (e : Byte) (s : State) : Result :=
  jumpIf .nc 12 8 (s.relativeTarget e) s

/-- R206: JR C,e8 (38). -/
def execJrCE8 (e : Byte) (s : State) : Result :=
  jumpIf .c 12 8 (s.relativeTarget e) s

/-- R203: JP NZ,a16 (C2). -/
def execJpNzA16 (a : Word) (s : State) : Result :=
  jumpIf .nz 16 12 a s

/-- R202: JP a16 (C3). -/
def execJpA16 (a : Word) (s : State) : Result :=
  jump 16 a s

/-- R208: CALL NZ,a16 (C4). -/
def execCallNzA16 (a : Word) (s : State) : Result :=
  callIf .nz a s

/-- R203: JP Z,a16 (CA). -/
def execJpZA16 (a : Word) (s : State) : Result :=
  jumpIf .z 16 12 a s

/-- R208: CALL Z,a16 (CC). -/
def execCallZA16 (a : Word) (s : State) : Result :=
  callIf .z a s

/-- R207: CALL a16 (CD). -/
def execCallA16 (a : Word) (s : State) : Result :=
  call 24 a s

/-- R203: JP NC,a16 (D2). -/
def execJpNcA16 (a : Word) (s : State) : Result :=
  jumpIf .nc 16 12 a s

/-- R208: CALL NC,a16 (D4). -/
def execCallNcA16 (a : Word) (s : State) : Result :=
  callIf .nc a s

/-- R203: JP C,a16 (DA). -/
def execJpCA16 (a : Word) (s : State) : Result :=
  jumpIf .c 16 12 a s

/-- R208: CALL C,a16 (DC). -/
def execCallCA16 (a : Word) (s : State) : Result :=
  callIf .c a s

/-- R210: RET NZ (C0). -/
def execRetNz (s : State) : Result :=
  returnIf .nz s

/-- R212: RST 0x00 (C7). -/
def execRst00 (s : State) : Result :=
  call 16 (restartTarget 0) s

/-- R210: RET Z (C8). -/
def execRetZ (s : State) : Result :=
  returnIf .z s

/-- R209: RET (C9). -/
def execRet (s : State) : Result :=
  returnPop 16 s

/-- R212: RST 0x08 (CF). -/
def execRst08 (s : State) : Result :=
  call 16 (restartTarget 1) s

/-- R210: RET NC (D0). -/
def execRetNc (s : State) : Result :=
  returnIf .nc s

/-- R212: RST 0x10 (D7). -/
def execRst10 (s : State) : Result :=
  call 16 (restartTarget 2) s

/-- R210: RET C (D8). -/
def execRetC (s : State) : Result :=
  returnIf .c s

/-- R211: RETI (D9). -/
def execReti (s : State) : Result :=
  finish 16 s.returnFromInterrupt

/-- R212: RST 0x18 (DF). -/
def execRst18 (s : State) : Result :=
  call 16 (restartTarget 3) s

/-- R212: RST 0x20 (E7). -/
def execRst20 (s : State) : Result :=
  call 16 (restartTarget 4) s

/-- R204: JP HL (E9). -/
def execJpHl (s : State) : Result :=
  jump 4 s.hl s

/-- R212: RST 0x28 (EF). -/
def execRst28 (s : State) : Result :=
  call 16 (restartTarget 5) s

/-- R212: RST 0x30 (F7). -/
def execRst30 (s : State) : Result :=
  call 16 (restartTarget 6) s

/-- R212: RST 0x38 (FF). -/
def execRst38 (s : State) : Result :=
  call 16 (restartTarget 7) s

end Sys2Proof.Machine
end

