-- ==== Sys2Proof/Machine/Loads16.lean ====
section
/-! DEFINITION. The meanings of 16-bit loads (41_loads16.md): R141 to R144. Each starts after all the bytes of
its instruction have been fetched (R60), so PC is already past them. -/

namespace Sys2Proof.Machine

/-! ## Shared operations -/

/-- `x16[p] <- v` (R141). -/
def loadPair (p : Pair) (v : Word) (s : State) : Result :=
  finish 12 (s.setPair p v)

/-- LD (a16),SP: two writes, the low byte first (R142). -/
def storeSp (a : Word) (s : State) : Result :=
  finish 20 ((s.memWrite a (lowByte s.sp)).memWrite (a + 1#16) (highByte s.sp))

/-- `SP <- HL` (R143). -/
def loadSpHl (s : State) : Result :=
  finish 8 (s.setSp s.hl)

/-- LD HL,SP+e8 (R144). -/
def loadHlSpOffset (e : Byte) (s : State) : Result :=
  finish 12 ((s.setHl (addSigned s.sp e)).setFlags (spOffsetFlags s.sp e))

/-! ## The rows -/

/-- R141: LD BC,d16 (01). -/
def execLdBcD16 (v : Word) (s : State) : Result :=
  loadPair .bc v s

/-- R142: LD (a16),SP (08). -/
def execLdAtA16Sp (a : Word) (s : State) : Result :=
  storeSp a s

/-- R141: LD DE,d16 (11). -/
def execLdDeD16 (v : Word) (s : State) : Result :=
  loadPair .de v s

/-- R141: LD HL,d16 (21). -/
def execLdHlD16 (v : Word) (s : State) : Result :=
  loadPair .hl v s

/-- R141: LD SP,d16 (31). -/
def execLdSpD16 (v : Word) (s : State) : Result :=
  loadPair .sp v s

/-- R144: LD HL,SP+e8 (F8). -/
def execLdHlSpE8 (e : Byte) (s : State) : Result :=
  loadHlSpOffset e s

/-- R143: LD SP,HL (F9). -/
def execLdSpHl (s : State) : Result :=
  loadSpHl s

end Sys2Proof.Machine
end

