-- ==== Sys2Proof/Machine/Loads8.lean ====
section
/-! DEFINITION. The meanings of 8-bit loads (40_loads8.md): R111 to R129. None writes a flag (R110). Each starts after all the bytes of
its instruction have been fetched (R60), so PC is already past them. -/

namespace Sys2Proof.Machine

/-! ## Shared operations -/

/-- `x[d] <- x[s]` (R111). -/
def loadReg (dst src : Reg) (s : State) : Result :=
  finish 4 (s.setReg dst (s.reg src))

/-- `x[d] <- n` (R112). -/
def loadImm (dst : Reg) (n : Byte) (s : State) : Result :=
  finish 8 (s.setReg dst n)

/-- `x[d] <- MemRead(a, 1)`: the loads from memory (R113, R116, R117, R120, R122, R124). -/
def loadMem (cost : Nat) (dst : Reg) (a : Word) (s : State) : Result :=
  let r := s.memRead a
  finish cost (r.2.setReg dst r.1)

/-- `MemWrite(a, 1, v)`: the stores (R114, R115, R118, R119, R121, R123, R125). -/
def storeMem (cost : Nat) (a : Word) (v : Byte) (s : State) : Result :=
  finish cost (s.memWrite a v)

/-- LD A,(HL+) and LD A,(HL-): the access at the old HL, then `HL <- trunc16(a + delta)` (R126, R127). -/
def loadAAtHlThen (delta : Word) (s : State) : Result :=
  let r := s.memRead s.hl
  finish 8 ((r.2.setReg .a r.1).setHl (s.hl + delta))

/-- LD (HL+),A and LD (HL-),A: the access at the old HL, then `HL <- trunc16(a + delta)` (R128, R129). -/
def storeAAtHlThen (delta : Word) (s : State) : Result :=
  finish 8 ((s.memWrite s.hl s.a).setHl (s.hl + delta))

/-! ## The rows -/

/-- R112: LD B,d8 (06). -/
def execLdBD8 (n : Byte) (s : State) : Result :=
  loadImm .b n s

/-- R112: LD C,d8 (0E). -/
def execLdCD8 (n : Byte) (s : State) : Result :=
  loadImm .c n s

/-- R112: LD D,d8 (16). -/
def execLdDD8 (n : Byte) (s : State) : Result :=
  loadImm .d n s

/-- R112: LD E,d8 (1E). -/
def execLdED8 (n : Byte) (s : State) : Result :=
  loadImm .e n s

/-- R112: LD H,d8 (26). -/
def execLdHD8 (n : Byte) (s : State) : Result :=
  loadImm .h n s

/-- R112: LD L,d8 (2E). -/
def execLdLD8 (n : Byte) (s : State) : Result :=
  loadImm .l n s

/-- R115: LD (HL),d8 (36). -/
def execLdAtHlD8 (n : Byte) (s : State) : Result :=
  storeMem 12 s.hl n s

/-- R112: LD A,d8 (3E). -/
def execLdAD8 (n : Byte) (s : State) : Result :=
  loadImm .a n s

/-- R125: LDH (a8),A (E0). -/
def execLdhAtA8A (n : Byte) (s : State) : Result :=
  storeMem 12 (highPage n) (s.reg .a) s

/-- R121: LD (a16),A (EA). -/
def execLdAtA16A (a : Word) (s : State) : Result :=
  storeMem 16 a (s.reg .a) s

/-- R124: LDH A,(a8) (F0). -/
def execLdhAAtA8 (n : Byte) (s : State) : Result :=
  loadMem 12 .a (highPage n) s

/-- R120: LD A,(a16) (FA). -/
def execLdAAtA16 (a : Word) (s : State) : Result :=
  loadMem 16 .a a s

/-- R118: LD (BC),A (02). -/
def execLdAtBcA (s : State) : Result :=
  storeMem 8 s.bc (s.reg .a) s

/-- R116: LD A,(BC) (0A). -/
def execLdAAtBc (s : State) : Result :=
  loadMem 8 .a s.bc s

/-- R119: LD (DE),A (12). -/
def execLdAtDeA (s : State) : Result :=
  storeMem 8 s.de (s.reg .a) s

/-- R117: LD A,(DE) (1A). -/
def execLdAAtDe (s : State) : Result :=
  loadMem 8 .a s.de s

/-- R128: LD (HL+),A (22). -/
def execLdAtHlIncA (s : State) : Result :=
  storeAAtHlThen 1#16 s

/-- R126: LD A,(HL+) (2A). -/
def execLdAAtHlInc (s : State) : Result :=
  loadAAtHlThen 1#16 s

/-- R129: LD (HL-),A (32). -/
def execLdAtHlDecA (s : State) : Result :=
  storeAAtHlThen (-1#16) s

/-- R127: LD A,(HL-) (3A). -/
def execLdAAtHlDec (s : State) : Result :=
  loadAAtHlThen (-1#16) s

/-- R111: LD B,B (40). -/
def execLdBB (s : State) : Result :=
  loadReg .b .b s

/-- R111: LD B,C (41). -/
def execLdBC (s : State) : Result :=
  loadReg .b .c s

/-- R111: LD B,D (42). -/
def execLdBD (s : State) : Result :=
  loadReg .b .d s

/-- R111: LD B,E (43). -/
def execLdBE (s : State) : Result :=
  loadReg .b .e s

/-- R111: LD B,H (44). -/
def execLdBH (s : State) : Result :=
  loadReg .b .h s

/-- R111: LD B,L (45). -/
def execLdBL (s : State) : Result :=
  loadReg .b .l s

/-- R113: LD B,(HL) (46). -/
def execLdBAtHl (s : State) : Result :=
  loadMem 8 .b s.hl s

/-- R111: LD B,A (47). -/
def execLdBA (s : State) : Result :=
  loadReg .b .a s

/-- R111: LD C,B (48). -/
def execLdCB (s : State) : Result :=
  loadReg .c .b s

/-- R111: LD C,C (49). -/
def execLdCC (s : State) : Result :=
  loadReg .c .c s

/-- R111: LD C,D (4A). -/
def execLdCD (s : State) : Result :=
  loadReg .c .d s

/-- R111: LD C,E (4B). -/
def execLdCE (s : State) : Result :=
  loadReg .c .e s

/-- R111: LD C,H (4C). -/
def execLdCH (s : State) : Result :=
  loadReg .c .h s

/-- R111: LD C,L (4D). -/
def execLdCL (s : State) : Result :=
  loadReg .c .l s

/-- R113: LD C,(HL) (4E). -/
def execLdCAtHl (s : State) : Result :=
  loadMem 8 .c s.hl s

/-- R111: LD C,A (4F). -/
def execLdCA (s : State) : Result :=
  loadReg .c .a s

/-- R111: LD D,B (50). -/
def execLdDB (s : State) : Result :=
  loadReg .d .b s

/-- R111: LD D,C (51). -/
def execLdDC (s : State) : Result :=
  loadReg .d .c s

/-- R111: LD D,D (52). -/
def execLdDD (s : State) : Result :=
  loadReg .d .d s

/-- R111: LD D,E (53). -/
def execLdDE (s : State) : Result :=
  loadReg .d .e s

/-- R111: LD D,H (54). -/
def execLdDH (s : State) : Result :=
  loadReg .d .h s

/-- R111: LD D,L (55). -/
def execLdDL (s : State) : Result :=
  loadReg .d .l s

/-- R113: LD D,(HL) (56). -/
def execLdDAtHl (s : State) : Result :=
  loadMem 8 .d s.hl s

/-- R111: LD D,A (57). -/
def execLdDA (s : State) : Result :=
  loadReg .d .a s

/-- R111: LD E,B (58). -/
def execLdEB (s : State) : Result :=
  loadReg .e .b s

/-- R111: LD E,C (59). -/
def execLdEC (s : State) : Result :=
  loadReg .e .c s

/-- R111: LD E,D (5A). -/
def execLdED (s : State) : Result :=
  loadReg .e .d s

/-- R111: LD E,E (5B). -/
def execLdEE (s : State) : Result :=
  loadReg .e .e s

/-- R111: LD E,H (5C). -/
def execLdEH (s : State) : Result :=
  loadReg .e .h s

/-- R111: LD E,L (5D). -/
def execLdEL (s : State) : Result :=
  loadReg .e .l s

/-- R113: LD E,(HL) (5E). -/
def execLdEAtHl (s : State) : Result :=
  loadMem 8 .e s.hl s

/-- R111: LD E,A (5F). -/
def execLdEA (s : State) : Result :=
  loadReg .e .a s

/-- R111: LD H,B (60). -/
def execLdHB (s : State) : Result :=
  loadReg .h .b s

/-- R111: LD H,C (61). -/
def execLdHC (s : State) : Result :=
  loadReg .h .c s

/-- R111: LD H,D (62). -/
def execLdHD (s : State) : Result :=
  loadReg .h .d s

/-- R111: LD H,E (63). -/
def execLdHE (s : State) : Result :=
  loadReg .h .e s

/-- R111: LD H,H (64). -/
def execLdHH (s : State) : Result :=
  loadReg .h .h s

/-- R111: LD H,L (65). -/
def execLdHL (s : State) : Result :=
  loadReg .h .l s

/-- R113: LD H,(HL) (66). -/
def execLdHAtHl (s : State) : Result :=
  loadMem 8 .h s.hl s

/-- R111: LD H,A (67). -/
def execLdHA (s : State) : Result :=
  loadReg .h .a s

/-- R111: LD L,B (68). -/
def execLdLB (s : State) : Result :=
  loadReg .l .b s

/-- R111: LD L,C (69). -/
def execLdLC (s : State) : Result :=
  loadReg .l .c s

/-- R111: LD L,D (6A). -/
def execLdLD (s : State) : Result :=
  loadReg .l .d s

/-- R111: LD L,E (6B). -/
def execLdLE (s : State) : Result :=
  loadReg .l .e s

/-- R111: LD L,H (6C). -/
def execLdLH (s : State) : Result :=
  loadReg .l .h s

/-- R111: LD L,L (6D). -/
def execLdLL (s : State) : Result :=
  loadReg .l .l s

/-- R113: LD L,(HL) (6E). -/
def execLdLAtHl (s : State) : Result :=
  loadMem 8 .l s.hl s

/-- R111: LD L,A (6F). -/
def execLdLA (s : State) : Result :=
  loadReg .l .a s

/-- R114: LD (HL),B (70). -/
def execLdAtHlB (s : State) : Result :=
  storeMem 8 s.hl (s.reg .b) s

/-- R114: LD (HL),C (71). -/
def execLdAtHlC (s : State) : Result :=
  storeMem 8 s.hl (s.reg .c) s

/-- R114: LD (HL),D (72). -/
def execLdAtHlD (s : State) : Result :=
  storeMem 8 s.hl (s.reg .d) s

/-- R114: LD (HL),E (73). -/
def execLdAtHlE (s : State) : Result :=
  storeMem 8 s.hl (s.reg .e) s

/-- R114: LD (HL),H (74). -/
def execLdAtHlH (s : State) : Result :=
  storeMem 8 s.hl (s.reg .h) s

/-- R114: LD (HL),L (75). -/
def execLdAtHlL (s : State) : Result :=
  storeMem 8 s.hl (s.reg .l) s

/-- R114: LD (HL),A (77). -/
def execLdAtHlA (s : State) : Result :=
  storeMem 8 s.hl (s.reg .a) s

/-- R111: LD A,B (78). -/
def execLdAB (s : State) : Result :=
  loadReg .a .b s

/-- R111: LD A,C (79). -/
def execLdAC (s : State) : Result :=
  loadReg .a .c s

/-- R111: LD A,D (7A). -/
def execLdAD (s : State) : Result :=
  loadReg .a .d s

/-- R111: LD A,E (7B). -/
def execLdAE (s : State) : Result :=
  loadReg .a .e s

/-- R111: LD A,H (7C). -/
def execLdAH (s : State) : Result :=
  loadReg .a .h s

/-- R111: LD A,L (7D). -/
def execLdAL (s : State) : Result :=
  loadReg .a .l s

/-- R113: LD A,(HL) (7E). -/
def execLdAAtHl (s : State) : Result :=
  loadMem 8 .a s.hl s

/-- R111: LD A,A (7F). -/
def execLdAA (s : State) : Result :=
  loadReg .a .a s

/-- R123: LDH (C),A (E2). -/
def execLdhAtCA (s : State) : Result :=
  storeMem 8 (highPage s.c) (s.reg .a) s

/-- R122: LDH A,(C) (F2). -/
def execLdhAAtC (s : State) : Result :=
  loadMem 8 .a (highPage s.c) s

end Sys2Proof.Machine
end

