-- ==== Sys2Proof/Machine/RotatesA.lean ====
section
/-! DEFINITION. The meanings of the accumulator rotates (46_rotates_a.md): R240 to R243. Each starts after all the bytes of
its instruction have been fetched (R60), so PC is already past them. -/

namespace Sys2Proof.Machine

/-! ## Shared operations -/

/-- A rotate of A with Z = 0 whatever the result (R240 to R243; 90 C5). -/
def rotateA (op : ShiftOp) (s : State) : Result :=
  let v := accRotateResult op s.a s.flagC
  finish 4 ((s.setReg .a v.value).setFlags v.flags)

/-! ## The rows -/

/-- R240: RLCA (07). -/
def execRlca (s : State) : Result :=
  rotateA .rlc s

/-- R241: RRCA (0F). -/
def execRrca (s : State) : Result :=
  rotateA .rrc s

/-- R242: RLA (17). -/
def execRla (s : State) : Result :=
  rotateA .rl s

/-- R243: RRA (1F). -/
def execRra (s : State) : Result :=
  rotateA .rr s

end Sys2Proof.Machine
end

