-- ==== Sys2Proof/Machine/Stack.lean ====
section
/-! DEFINITION. The meanings of the stack instructions (45_stack.md): R230 to R232. Each starts after all the bytes of
its instruction have been fetched (R60), so PC is already past them. -/

namespace Sys2Proof.Machine

/-! ## Shared operations -/

/-- PUSH qq (R230). -/
def pushPair (p : StackPair) (s : State) : Result :=
  finish 16 (s.push16 (s.stackPair p))

/-- POP qq (R231); into AF, F takes the low byte with its low nibble 0 (R232). -/
def popPair (p : StackPair) (s : State) : Result :=
  let r := s.pop16
  finish 12 (r.2.setStackPair p r.1)

/-! ## The rows -/

/-- R231: POP BC (C1). -/
def execPopBc (s : State) : Result :=
  popPair .bc s

/-- R230: PUSH BC (C5). -/
def execPushBc (s : State) : Result :=
  pushPair .bc s

/-- R231: POP DE (D1). -/
def execPopDe (s : State) : Result :=
  popPair .de s

/-- R230: PUSH DE (D5). -/
def execPushDe (s : State) : Result :=
  pushPair .de s

/-- R231: POP HL (E1). -/
def execPopHl (s : State) : Result :=
  popPair .hl s

/-- R230: PUSH HL (E5). -/
def execPushHl (s : State) : Result :=
  pushPair .hl s

/-- R232: POP AF (F1). -/
def execPopAf (s : State) : Result :=
  popPair .af s

/-- R230: PUSH AF (F5). -/
def execPushAf (s : State) : Result :=
  pushPair .af s

end Sys2Proof.Machine
end

