-- ==== Sys2Proof/Machine/System.lean ====
section
/-! DEFINITION. The meanings of system and miscellaneous instructions (48_system.md): R280 to R285. Each starts after all the bytes of
its instruction have been fetched (R60), so PC is already past them. -/

namespace Sys2Proof.Machine

/-! ## Shared operations -/

/-- HALT (R281). -/
def enterHalt (s : State) : Result :=
  if s.irqLines ≠ 0#5 then
    if s.ime then finish 4 s else finish 4 (s.setHaltBug true)
  else finish 4 (s.setHalted true)

/-- An unused opcode (R285): a NOP, a fatal fault (R303), or a lock-up (R305). "Cost: 4 … in every mode" (log entry 7). -/
def unusedOpcode (op : UnusedOpcode) (s : State) : Result :=
  match s.cfg.illegalOpcodeMode with
  | .nop => finish 4 s
  | .fatal => finish 4 (s.setFault (.unimplementedOpcode op.byte s.opcodeAddr))
  | .lockup => finish 4 (s.setLocked true)

/-! ## The rows -/

/-- R282: STOP (10). -/
def execStop (_x : Byte) (s : State) : Result :=
  finish 4 (s.setStopped true)

/-- R280: NOP (00). -/
def execNop (s : State) : Result :=
  finish 4 s

/-- R281: HALT (76). -/
def execHalt (s : State) : Result :=
  enterHalt s

/-- R285: unused opcode 0xD3 (D3). -/
def execIllegalD3 (s : State) : Result :=
  unusedOpcode .xD3 s

/-- R285: unused opcode 0xDB (DB). -/
def execIllegalDB (s : State) : Result :=
  unusedOpcode .xDB s

/-- R285: unused opcode 0xDD (DD). -/
def execIllegalDD (s : State) : Result :=
  unusedOpcode .xDD s

/-- R285: unused opcode 0xE3 (E3). -/
def execIllegalE3 (s : State) : Result :=
  unusedOpcode .xE3 s

/-- R285: unused opcode 0xE4 (E4). -/
def execIllegalE4 (s : State) : Result :=
  unusedOpcode .xE4 s

/-- R285: unused opcode 0xEB (EB). -/
def execIllegalEB (s : State) : Result :=
  unusedOpcode .xEB s

/-- R285: unused opcode 0xEC (EC). -/
def execIllegalEC (s : State) : Result :=
  unusedOpcode .xEC s

/-- R285: unused opcode 0xED (ED). -/
def execIllegalED (s : State) : Result :=
  unusedOpcode .xED s

/-- R283: DI (F3). -/
def execDi (s : State) : Result :=
  finish 4 ((s.setIme false).setEiPending false)

/-- R285: unused opcode 0xF4 (F4). -/
def execIllegalF4 (s : State) : Result :=
  unusedOpcode .xF4 s

/-- R284: EI (FB). -/
def execEi (s : State) : Result :=
  finish 4 (s.setEiPending true)

/-- R285: unused opcode 0xFC (FC). -/
def execIllegalFC (s : State) : Result :=
  unusedOpcode .xFC s

/-- R285: unused opcode 0xFD (FD). -/
def execIllegalFD (s : State) : Result :=
  unusedOpcode .xFD s

end Sys2Proof.Machine
end

