-- ==== Sys2Proof/Machine/Tick.lean ====
section
/-! DEFINITION. The sequencer: the tick contract (R81), the boundary action (R82) and the dispatch of one instruction (R83). -/

namespace Sys2Proof.Machine

/-- `Dispatch()` of R83: the bytes of the instruction are fetched, classified (R99), and its rule is run. -/
def dispatch (s : State) : Result :=
  let r := s.fetchInstr
  match decode r.1 with
  | .ok (i, _) => exec i r.2
  | .error why => .refused (.undecodable why)

/-- "EI takes effect after one instruction" (R82, R284). -/
def State.applyEi (s : State) : State :=
  if s.eiPending then (s.setIme true).setEiPending false else s

/-- The boundary action of a stopped core (R82, R316). -/
def stoppedBoundary (s : State) : Result :=
  if s.stopWakeLine then .next ((s.setStopped false).setCr 4) else .next s

/-- The boundary action of a halted core (R82, R315). -/
def haltedBoundary (s : State) : Result :=
  if s.irqLines ≠ 0#5 then .next ((s.setHalted false).setCr 4) else .next s

/-- An interrupt is accepted at this boundary: IME and the request alone decide, as in R307's list and R82's pseudocode, also at the
boundary directly after an EI that was executed while IME was already 1. There R307's last sentence, R284 and 92 D10 would accept
none, so the spec leaves that boundary open: DESIGN CHOICE, unsafe (log entry 22). -/
def State.acceptsInterrupt (s : State) : Bool :=
  s.ime && s.irqLines != 0#5

/-- The boundary action (R82), in its order: the interrupt check comes before `ei_pending` is applied, and does not look at it
(DESIGN CHOICE for an EI with IME already 1, log entry 22). -/
def boundary (s : State) : Result :=
  if s.stopped then stoppedBoundary s
  else if s.halted then haltedBoundary s
  else if s.acceptsInterrupt then .next (s.interruptEntry (lowestLine s.irqLines))
  else dispatch s.applyEi

/-- A faulted or locked core does nothing (R81, R304, R305). -/
def State.dead (s : State) : Bool :=
  s.fault != .none || s.locked

/-- The counting part of a tick: the input levels of this tick, and `cr` one lower unless it is 0 (R81; 92 D4). -/
def State.countDown (s : State) : State :=
  let s := s.sampleInputs
  s.setCr (s.cr - 1)

/-- `tick()` of R81. -/
def tick (s : State) : Result :=
  if s.dead then .next s
  else if s.countDown.cr > 0 then .next s.countDown
  else boundary s.countDown

/-! ## Placing an instruction where the next tick dispatches it -/

/-- The bytes, in order, at the addresses from `a` on. No transaction: the host places them. -/
def State.placeBytes (s : State) (a : Word) : List Byte → State
  | [] => s
  | v :: rest => State.placeBytes (s.setMem (Memory.write s.mem a.toNat v)) (a + 1#16) rest

/-- Those of the bytes that lie, in order from `a` on, at external addresses: what the host answers to their reads. -/
def State.externalBytes (s : State) (a : Word) : List Byte → List Byte
  | [] => []
  | v :: rest =>
    if s.kindAt a = .external then v :: State.externalBytes s (a + 1#16) rest
    else State.externalBytes s (a + 1#16) rest

/-- The bytes from `a` on, held in memory; and for an instruction at an external address, its own bytes as the host's next
answers. -/
def State.placeInstr (s : State) (a : Word) (bytes : List Byte) : State :=
  State.placeBytes
    { s with answers := s.externalBytes a (bytes.take (instrLength (bytes.headD 0#8))) ++ s.answers } a bytes

/-- A core whose next tick is a boundary action that dispatches: no fault, not locked, halted or stopped, no busy ticks left, no
halt bug; IME stays unless the next tick would accept an interrupt with it. -/
def State.readyToDispatch (s : State) : State :=
  { s with
    fault := .none
    locked := false
    halted := false
    stopped := false
    haltBug := false
    cr := 0
    ime := s.ime && s.sampleInputs.irqLines == 0#5 }

end Sys2Proof.Machine
end

