-- ==== Sys2Proof/Machine/Step.lean ====
section
/-! DEFINITION. One step of the machine is one tick (R2, R81), and where the host places an instruction for it. -/

namespace Sys2Proof.Machine

/-- One tick: "One `tick` is one atomic step of the block" (R2). -/
def step (s : State) : Host.Outcome State Fault Refusal :=
  tick s

/-- `s` with the instruction of a table word at PC, ready so that the next step runs it (log entries 8 and 9). -/
def State.withFetchWord (s : State) (nbits w : Nat) : State :=
  s.readyToDispatch.placeInstr s.pc (tableBytes nbits w)

end Sys2Proof.Machine
end

