-- ==== Sys2Proof/Safety.lean ====
section
/-! DEFINITION. The terms the claims use: run states, the invariant of the machine, what an instruction leaves unchanged, the
second operand of the ALU forms, the cost table, and which instructions may write which state. -/

namespace Sys2Proof.Machine

/-! ## Run states -/

/-- A run is over (R351): no further tick can change any state. -/
def State.runOver (s : State) : Bool :=
  s.fault != .none || s.locked || (s.halted && !s.cfg.irqConnected) || (s.stopped && !s.cfg.stopWakeConnected)

/-- None of the waits and stops of R320: the next boundary dispatches or accepts an interrupt. -/
def State.running (s : State) : Bool :=
  !s.dead && !s.halted && !s.stopped

/-- This tick is a boundary action that dispatches an instruction (R81, R82). -/
def State.dispatches (s : State) : Prop :=
  s.running = true ∧ s.cr ≤ 1 ∧ s.countDown.acceptsInterrupt = false

/-! ## The invariant -/

/-- What every state of a run satisfies. -/
structure State.Inv (s : State) : Prop where
  /-- Memory is in its canonical form, inside the address space (R50). -/
  memoryCanonical : s.mem.wf = true
  /-- "`F[3:0]` reads as 0 at all times" (R23). -/
  flagsLowNibbleZero : s.f &&& 0x0F#8 = 0#8
  /-- "The largest value the rules load is 24" (R27). -/
  crBounded : s.cr ≤ 24
  /-- The halt bug is pending only with interrupts connected, IME and `ei_pending` 0, and no wait or lock-up (93 I24). -/
  haltBugOnlyMasked : s.haltBug = true → s.ime = false ∧ s.eiPending = false ∧ s.halted = false ∧ s.stopped = false ∧
    s.locked = false ∧ s.cfg.irqConnected = true
  /-- The core waits in one way at most (R320). -/
  oneWait : s.halted = true → s.stopped = false
  /-- Lock-up is entered from a running core, and only in LOCKUP mode (R285, R305). -/
  lockedOnlyInLockup : s.locked = true → s.cfg.illegalOpcodeMode = .lockup ∧ s.halted = false ∧ s.stopped = false
  /-- `UNIMPLEMENTED_OPCODE` names an unused opcode, and arises only in FATAL mode (R303). -/
  faultOnlyInFatal : ∀ op addr, s.fault = .unimplementedOpcode op addr →
    s.cfg.illegalOpcodeMode = .fatal ∧ ∃ u : UnusedOpcode, op = u.byte
  /-- `UNSUPPORTED_MODEL` holds exactly of a core constructed for another model, and names it (R302). -/
  modelFault : ∀ m, s.fault = .unsupportedModel m ↔ (s.cfg.model = m ∧ m ≠ .dmg)

/-! ## What an instruction leaves unchanged -/

/-- The interrupt, wait, lock and fault state, the configuration, the memory's behaviour, the input ports and `opcodeAddr` are
unchanged. -/
def State.SameControl (s t : State) : Prop :=
  t.ime = s.ime ∧ t.eiPending = s.eiPending ∧ t.halted = s.halted ∧ t.stopped = s.stopped ∧ t.haltBug = s.haltBug ∧
  t.locked = s.locked ∧ t.fault = s.fault ∧ t.cfg = s.cfg ∧ t.irqReq = s.irqReq ∧ t.stopWake = s.stopWake ∧
  t.inputs = s.inputs ∧ t.opcodeAddr = s.opcodeAddr ∧ t.regions = s.regions

/-- Every general register outside `rs` is unchanged. -/
def State.SameRegsExcept (rs : List Reg) (s t : State) : Prop :=
  ∀ q : Reg, q ∉ rs → t.reg q = s.reg q

/-- Every byte that memory holds is as before. -/
def State.SameMemory (s t : State) : Prop :=
  ∀ a : Word, t.peek a = s.peek a

/-- The bytes stored, each at its address, and nowhere else: every byte outside these addresses is as before, and so is one at an
address whose write is not stored (R52); in a canonical memory each of these addresses that is `ram` holds the byte stored there. -/
def State.StoresOnly (ws : List (Word × Byte)) (s t : State) : Prop :=
  (∀ a : Word, (a ∉ ws.map Prod.fst ∨ s.kindAt a ≠ .ram) → t.peek a = s.peek a) ∧
  (s.mem.wf = true → ∀ w ∈ ws, s.kindAt w.1 = .ram → t.peek w.1 = w.2)

/-- How many of the transactions are reads that the host answers. -/
def State.externalReads (s : State) (evs : List BusEvent) : Nat :=
  evs.countP fun ev => match ev with
    | .read a _ => decide (s.kindAt a = .external)
    | _ => false

/-- Exactly these transactions were made, oldest first (R60), and the reads among them that the host answers, and nothing else, used
up its answers. -/
def State.Transacts (evs : List BusEvent) (s t : State) : Prop :=
  t.trace = evs.reverse ++ s.trace ∧ t.answers = s.answers.drop (s.externalReads evs)

/-- F holds exactly these four flags, its low nibble 0 (R23). -/
def State.FlagsAre (t : State) (z n h c : Bool) : Prop :=
  t.flagZ = z ∧ t.flagN = n ∧ t.flagH = h ∧ t.flagC = c ∧ t.f &&& 0x0F#8 = 0#8

/-! ## The second operand of the ALU forms (R150) -/

/-- Where the second operand comes from. -/
inductive AluSource where
  | reg (r : Reg)
  | atHl
  | imm (n : Byte)
deriving DecidableEq, Repr

/-- The row of an operation with this source. -/
def AluSource.instr (op : AluOp) : AluSource → Instr
  | .reg r => .aluReg op r
  | .atHl => .aluAtHl op
  | .imm n => .aluImm op n

/-- The operand's value. -/
def AluSource.value (s : State) : AluSource → Byte
  | .reg r => s.reg r
  | .atHl => s.answer s.hl
  | .imm n => n

/-- The `encoding` column of R150. -/
def AluSource.bytes (op : AluOp) : AluSource → List Byte
  | .reg r => [BitVec.ofNat 8 (0x80 + 8 * op.code + r.code)]
  | .atHl => [BitVec.ofNat 8 (0x86 + 8 * op.code)]
  | .imm n => [BitVec.ofNat 8 (0xC6 + 8 * op.code), n]

/-- The `cost` column of R150. -/
def AluSource.cost : AluSource → Nat
  | .reg _ => 4
  | .atHl => 8
  | .imm _ => 8

/-- The data transactions of the form: one read for (HL), none otherwise (R60). -/
def AluSource.reads (s : State) : AluSource → List BusEvent
  | .reg _ => []
  | .atHl => [.read s.hl (s.answer s.hl)]
  | .imm _ => []

/-! ## Operands that may be the byte at HL (R85) -/

/-- The value of an 8-bit operand. -/
def State.operand (s : State) : Operand8 → Byte
  | .reg r => s.reg r
  | .atHl => s.answer s.hl

/-- After a read-modify-write of operand `o` with result `v`: a register operand holds `v`, and `v` is written at HL for the byte
there, with exactly one read and one write, in this order (R60, R250); every other register and byte of memory is unchanged. -/
def State.Updates (o : Operand8) (v : Byte) (s t : State) : Prop :=
  match o with
  | .reg r => t.reg r = v ∧ State.SameRegsExcept [r] s t ∧ State.SameMemory s t ∧ State.Transacts [] s t
  | .atHl => State.SameRegsExcept [] s t ∧ State.StoresOnly [(s.hl, v)] s t ∧
      State.Transacts [.read s.hl (s.answer s.hl), .write s.hl v] s t

/-! ## Reads in a row -/

/-- What the Memory answers to `n` reads at the addresses from `a` on, made one after the other (R51). -/
def State.stream (s : State) (a : Word) : Nat → List Byte
  | 0 => []
  | n + 1 => s.answer a :: State.stream (s.afterRead a) (a + 1#16) n

/-- The transactions of these reads, oldest first (R60). -/
def State.readEvents (s : State) (a : Word) : Nat → List BusEvent
  | 0 => []
  | n + 1 => .read a (s.answer a) :: State.readEvents (s.afterRead a) (a + 1#16) n

/-- The two bytes a pop reads, in order: the one at SP, then the one at SP + 1 (R59). -/
def State.popped (s : State) : Byte × Byte :=
  (s.answer s.sp, (s.afterRead s.sp).answer (s.sp + 1#16))

/-! ## Rotates and shifts on integers -/

/-- The result and the carry of a rotate or shift of the byte value `v` with the carry `c` (0 or 1), as integers (R251 to R265). -/
def shiftNat (op : ShiftOp) (v c : Nat) : Nat × Bool :=
  match op with
  | .rlc => ((2 * v + v / 128) % 256, decide (v ≥ 128))
  | .rrc => (v / 2 + 128 * (v % 2), decide (v % 2 = 1))
  | .rl => ((2 * v + c) % 256, decide (v ≥ 128))
  | .rr => (v / 2 + 128 * c, decide (v % 2 = 1))
  | .sla => (2 * v % 256, decide (v ≥ 128))
  | .sra => (v / 2 + (if v ≥ 128 then 128 else 0), decide (v % 2 = 1))
  | .swap => (v % 16 * 16 + v / 16, false)
  | .srl => (v / 2, decide (v % 2 = 1))

/-- The two-digit binary-coded decimal of `n` (below 100): tens in the high nibble, units in the low one (R180). -/
def bcd (n : Nat) : Byte :=
  BitVec.ofNat 8 (n / 10 * 16 + n % 10)

/-! ## Conditions, pairs, calls and returns -/

/-- When a conditional instruction is taken: the table of R87 and R200. -/
def State.holds (s : State) : Cond → Bool
  | .nz => !s.flagZ
  | .z => s.flagZ
  | .nc => !s.flagC
  | .c => s.flagC

/-- The general registers a pair is made of (R22). -/
def pairRegs : Pair → List Reg
  | .bc => [.b, .c]
  | .de => [.d, .e]
  | .hl => [.h, .l]
  | .sp => []

/-- The effect of pushing PC and jumping to `target` at this cost (R58, R207). -/
def calls (target : Word) (cost : Nat) (s t : State) : Prop :=
  t.pc = target ∧ t.sp = s.sp - 2#16 ∧
  State.StoresOnly [(s.sp - 1#16, highByte s.pc), (s.sp - 2#16, lowByte s.pc)] s t ∧
  State.Transacts [.write (s.sp - 1#16) (highByte s.pc), .write (s.sp - 2#16) (lowByte s.pc)] s t ∧
  t.cr = cost ∧ State.SameRegsExcept [] s t ∧ t.f = s.f ∧ State.SameControl s t

/-- No transfer: nothing changes but `cr`. -/
def fallsThrough (cost : Nat) (s t : State) : Prop :=
  t.pc = s.pc ∧ t.sp = s.sp ∧ State.SameMemory s t ∧ State.Transacts [] s t ∧
  t.cr = cost ∧ State.SameRegsExcept [] s t ∧ t.f = s.f ∧ State.SameControl s t

/-- The effect of popping PC at this cost (R59, R209); the interrupt, wait and fault state is the caller's to say. -/
def returns (cost : Nat) (s t : State) : Prop :=
  t.pc = joinBytes s.popped.2 s.popped.1 ∧ t.sp = s.sp + 2#16 ∧ State.SameMemory s t ∧
  State.Transacts [.read s.sp s.popped.1, .read (s.sp + 1#16) s.popped.2] s t ∧
  t.cr = cost ∧ State.SameRegsExcept [] s t ∧ t.f = s.f

/-- The two bytes of a pair of R86's `qq` row; F's low nibble reads 0 (R22, R23). -/
def stackPairBytes (s : State) : StackPair → Byte × Byte
  | .bc => (s.b, s.c)
  | .de => (s.d, s.e)
  | .hl => (s.h, s.l)
  | .af => (s.a, s.f &&& 0xF0#8)

/-! ## The cost table -/

/-- The costs of the base map of R95, sixteen opcodes a row; the not-taken cost of a conditional row. The prefix has none of its
own. -/
def baseCycles : List Nat :=
  [4, 12, 8, 8, 4, 4, 8, 4, 20, 8, 8, 8, 4, 4, 8, 4] ++
  [4, 12, 8, 8, 4, 4, 8, 4, 12, 8, 8, 8, 4, 4, 8, 4] ++
  [8, 12, 8, 8, 4, 4, 8, 4, 8, 8, 8, 8, 4, 4, 8, 4] ++
  [8, 12, 8, 8, 12, 12, 12, 4, 8, 8, 8, 8, 4, 4, 8, 4] ++
  [4, 4, 4, 4, 4, 4, 8, 4, 4, 4, 4, 4, 4, 4, 8, 4] ++
  [4, 4, 4, 4, 4, 4, 8, 4, 4, 4, 4, 4, 4, 4, 8, 4] ++
  [4, 4, 4, 4, 4, 4, 8, 4, 4, 4, 4, 4, 4, 4, 8, 4] ++
  [8, 8, 8, 8, 8, 8, 4, 8, 4, 4, 4, 4, 4, 4, 8, 4] ++
  [4, 4, 4, 4, 4, 4, 8, 4, 4, 4, 4, 4, 4, 4, 8, 4] ++
  [4, 4, 4, 4, 4, 4, 8, 4, 4, 4, 4, 4, 4, 4, 8, 4] ++
  [4, 4, 4, 4, 4, 4, 8, 4, 4, 4, 4, 4, 4, 4, 8, 4] ++
  [4, 4, 4, 4, 4, 4, 8, 4, 4, 4, 4, 4, 4, 4, 8, 4] ++
  [8, 12, 12, 16, 12, 16, 8, 16, 8, 16, 12, 0, 12, 24, 8, 16] ++
  [8, 12, 12, 4, 12, 16, 8, 16, 8, 16, 12, 4, 12, 4, 8, 16] ++
  [12, 12, 8, 4, 4, 16, 8, 16, 16, 4, 16, 4, 4, 4, 8, 16] ++
  [12, 12, 8, 4, 4, 16, 8, 16, 12, 8, 16, 4, 4, 4, 8, 16]

/-- The same map with the taken cost of a conditional row. -/
def baseCyclesTaken : List Nat :=
  [4, 12, 8, 8, 4, 4, 8, 4, 20, 8, 8, 8, 4, 4, 8, 4] ++
  [4, 12, 8, 8, 4, 4, 8, 4, 12, 8, 8, 8, 4, 4, 8, 4] ++
  [12, 12, 8, 8, 4, 4, 8, 4, 12, 8, 8, 8, 4, 4, 8, 4] ++
  [12, 12, 8, 8, 12, 12, 12, 4, 12, 8, 8, 8, 4, 4, 8, 4] ++
  [4, 4, 4, 4, 4, 4, 8, 4, 4, 4, 4, 4, 4, 4, 8, 4] ++
  [4, 4, 4, 4, 4, 4, 8, 4, 4, 4, 4, 4, 4, 4, 8, 4] ++
  [4, 4, 4, 4, 4, 4, 8, 4, 4, 4, 4, 4, 4, 4, 8, 4] ++
  [8, 8, 8, 8, 8, 8, 4, 8, 4, 4, 4, 4, 4, 4, 8, 4] ++
  [4, 4, 4, 4, 4, 4, 8, 4, 4, 4, 4, 4, 4, 4, 8, 4] ++
  [4, 4, 4, 4, 4, 4, 8, 4, 4, 4, 4, 4, 4, 4, 8, 4] ++
  [4, 4, 4, 4, 4, 4, 8, 4, 4, 4, 4, 4, 4, 4, 8, 4] ++
  [4, 4, 4, 4, 4, 4, 8, 4, 4, 4, 4, 4, 4, 4, 8, 4] ++
  [20, 12, 16, 16, 24, 16, 8, 16, 20, 16, 16, 0, 24, 24, 8, 16] ++
  [20, 12, 16, 4, 24, 16, 8, 16, 20, 16, 16, 4, 24, 4, 8, 16] ++
  [12, 12, 8, 4, 4, 16, 8, 16, 16, 4, 16, 4, 4, 4, 8, 16] ++
  [12, 12, 8, 4, 4, 16, 8, 16, 12, 8, 16, 4, 4, 4, 8, 16]

/-- The cost of an extended row: 8 for a register, 16 for (HL), 12 for BIT b,(HL) (R250). -/
def extendedCycles (op2 : Byte) : Nat :=
  if op2.toNat % 8 = 6 then (if op2.toNat / 64 = 1 then 12 else 16) else 8

/-- The cost the table gives an instruction, its condition not holding (R104, R349). -/
def instrCycles (i : Instr) : Nat :=
  match encode i with
  | [] => 0
  | op :: rest =>
    if op = 0xCB#8 then
      match rest with
      | [] => 0
      | op2 :: _ => extendedCycles op2
    else baseCycles.getD op.toNat 0

/-- The cost the table gives an instruction, its condition holding (R104, R349). -/
def instrCyclesTaken (i : Instr) : Nat :=
  match encode i with
  | [] => 0
  | op :: rest =>
    if op = 0xCB#8 then
      match rest with
      | [] => 0
      | op2 :: _ => extendedCycles op2
    else baseCyclesTaken.getD op.toNat 0

/-! ## Who writes what (R24, R25, R28, R34) -/

/-- The instructions that may change F: the rows of R24 with an entry that is not `-`. -/
def mayWriteFlags (i : Instr) : Prop :=
  i ∈ [.daa, .cpl, .scf, .ccf, .rlca, .rrca, .rla, .rra, .popAf, .incAtHl, .decAtHl] ∨
  (∃ e, i = .addSpE8 e) ∨ (∃ e, i = .ldHlSpE8 e) ∨
  (∃ op r, i = .aluReg op r) ∨ (∃ op, i = .aluAtHl op) ∨ (∃ op n, i = .aluImm op n) ∨
  (∃ r, i = .incReg r) ∨ (∃ r, i = .decReg r) ∨ (∃ p, i = .addHlPair p) ∨
  (∃ op r, i = .shiftReg op r) ∨ (∃ op, i = .shiftAtHl op) ∨ (∃ n r, i = .bitReg n r) ∨ (∃ n, i = .bitAtHl n) ∨
  (∃ op2, i = .prefixCb op2)

/-- The instructions that may change SP (R25). -/
def mayWriteSp (i : Instr) : Prop :=
  i ∈ [.ldSpHl, .incSp, .decSp, .ret, .reti] ∨
  (∃ v, i = .ldSpD16 v) ∨ (∃ e, i = .addSpE8 e) ∨ (∃ p, i = .push p) ∨ (∃ p, i = .pop p) ∨
  (∃ a, i = .callA16 a) ∨ (∃ cc a, i = .callCond cc a) ∨ (∃ cc, i = .retCond cc) ∨ (∃ t, i = .rst t)

/-- The instructions that may write memory (R34). -/
def mayWriteMemory (i : Instr) : Prop :=
  i ∈ [.ldAtBcA, .ldAtDeA, .ldAtHlIncA, .ldAtHlDecA, .ldhAtCA, .incAtHl, .decAtHl] ∨
  (∃ r, i = .ldAtHlReg r) ∨ (∃ n, i = .ldAtHlD8 n) ∨ (∃ a, i = .ldAtA16A a) ∨ (∃ n, i = .ldhAtA8A n) ∨
  (∃ a, i = .ldAtA16Sp a) ∨ (∃ op, i = .shiftAtHl op) ∨ (∃ n, i = .resAtHl n) ∨ (∃ n, i = .setAtHl n) ∨
  (∃ p, i = .push p) ∨ (∃ a, i = .callA16 a) ∨ (∃ cc a, i = .callCond cc a) ∨ (∃ t, i = .rst t) ∨
  (∃ op2, i = .prefixCb op2)

end Sys2Proof.Machine
end

