-- ==== Sys2Proof/Certificates/Slice0/Obligations.lean ====
section
/-! DEFINITION. What is claimed of the machine, one proposition each. A claim about an instruction gives its encoding, the next
state `exec` answers, and its frame: what stays unchanged. `exec` starts after the fetch, so "PC unchanged" means that the
instruction leaves PC past its own bytes, and the fetch of the operand bytes its encoding shows is
`StepRunsTheDecodedInstruction`. The transactions (`Transacts`) are the rules' own. What the Memory answers (`answer`, `stream`,
`popped`) and what it holds and stores (`peek`, `SameMemory`, `StoresOnly`) follow the argument `MEM` in the form the model chose
for it (log entries 2 and 21), and the levels of one tick (`sampleInputs`) are the model's form of the input ports (log entry 3).
-/

open Sys2Proof Sys2Proof.Machine

/-! ## Encoding -/

/-- Words written out from the encodings of R111, R112, R141, R206, R208, R212, R230, R267, R282, R285 and R286. -/
def Obligations.DecodesWordsOfTheSpec : Prop :=
  decode [0b01001000#8] = .ok (.ldCB, []) ∧
  decode [0b00111110#8, 0x42#8] = .ok (.ldAD8 0x42#8, []) ∧
  decode [0b00100001#8, 0x4D#8, 0x01#8] = .ok (.ldHlD16 0x014D#16, []) ∧
  decode [0b00110000#8, 0x05#8] = .ok (.jrNcE8 0x05#8, []) ∧
  decode [0b11011100#8, 0x00#8, 0x02#8] = .ok (.callCA16 0x0200#16, []) ∧
  decode [0b11111111#8] = .ok (.rst38, []) ∧
  decode [0b11010101#8] = .ok (.pushDe, []) ∧
  decode [0b11001011#8, 0b01111100#8] = .ok (.bit7H, []) ∧
  decode [0b00010000#8, 0x00#8] = .ok (.stop 0x00#8, []) ∧
  decode [0b11010011#8] = .ok (.illegalD3, []) ∧
  decode [0b11001011#8, 0b11001011#8] = .ok (.set1E, [])

/-- Decoding the bytes of a well-formed instruction gives it back, with every operand, and leaves the bytes after it. -/
def Obligations.DecodeAfterEncodeIsIdentity : Prop :=
  ∀ (i : Instr) (rest : List Byte), i.wellFormed = true → decode (encode i ++ rest) = .ok (i, rest)

/-- Encoding what was decoded gives the bytes back: no two byte sequences are the same instruction, and what a decoder answers is
well formed. -/
def Obligations.EncodeAfterDecodeIsIdentity : Prop :=
  ∀ (bytes : List Byte) (i : Instr) (rest : List Byte),
    decode bytes = .ok (i, rest) → i.wellFormed = true ∧ encode i ++ rest = bytes

/-- "Decoding is total" (R99), and the length is known from the first byte alone (R80): `instrLength` bytes always decode, and use
up exactly those bytes. -/
def Obligations.DecodingIsTotalWithLengthFromFirstByte : Prop :=
  ∀ (op b1 b2 : Byte) (rest : List Byte),
    1 ≤ instrLength op ∧ instrLength op ≤ 3 ∧
    ∃ i, decode (op :: b1 :: b2 :: rest) = .ok (i, (op :: b1 :: b2 :: rest).drop (instrLength op)) ∧
      (encode i).length = instrLength op

/-- The unused base opcodes are the eleven values of R97, and the extended table has none. -/
def Obligations.UnusedOpcodesAreTheElevenOfTheTable : Prop :=
  (∀ (op : Byte) (rest : List Byte), (∃ u : UnusedOpcode, decode (op :: rest) = .ok (Instr.unused u, rest)) ↔
    op ∈ [0xD3#8, 0xDB#8, 0xDD#8, 0xE3#8, 0xE4#8, 0xEB#8, 0xEC#8, 0xED#8, 0xF4#8, 0xFC#8, 0xFD#8]) ∧
  (∀ (op2 : Byte) (rest : List Byte) (u : UnusedOpcode), decode (0xCB#8 :: op2 :: rest) ≠ .ok (Instr.unused u, rest))

/-- R286: the prefix runs the extended row of the byte after it, and completes. -/
def Obligations.PrefixRunsTheExtendedRow : Prop :=
  ∀ (op2 : Byte) (s : State),
    encode (.prefixCb op2) = [0xCB#8, op2] ∧
    (∀ rest, ∃ i, decode (0xCB#8 :: op2 :: rest) = .ok (i, rest) ∧ exec (.prefixCb op2) s = exec i s) ∧
    ∃ t, exec (.prefixCb op2) s = .next t

/-! ## Construction and memory -/

/-- The values after construction (R32, R340): for DMG every element at its value, and for another model the fault. That reset is
the construction with R6's defaults and a plain array of zero bytes is the model's choice (log entries 1 and 2), and so are the
values 0 of `cr`, IME and the wait bits of a core of another model (log entry 5). -/
def Obligations.ConstructionGivesTheResetValues : Prop :=
  State.reset = State.construct Config.default (.plain []) ∧
  ∀ (cfg : Config) (mem : Mem),
    let s := State.construct cfg mem
    (cfg.model = .dmg →
      s.af = 0x01B0#16 ∧ s.bc = 0x0013#16 ∧ s.de = 0x00D8#16 ∧ s.hl = 0x014D#16 ∧ s.sp = 0xFFFE#16 ∧
      s.pc = (match cfg.resetPc with | .at0000 => 0x0000#16 | .at0100 => 0x0100#16) ∧ s.fault = .none) ∧
    (∀ name, cfg.model = .other name → s.fault = .unsupportedModel (.other name)) ∧
    s.cr = 0 ∧ s.ime = false ∧ s.eiPending = false ∧ s.halted = false ∧ s.stopped = false ∧ s.haltBug = false ∧
    s.locked = false ∧ s.mem = mem.contents ∧ s.regions = mem.regions ∧ s.answers = mem.answers ∧ s.cfg = cfg

/-- R302: a core constructed for another model does nothing, however often it is ticked. -/
def Obligations.UnsupportedModelNeverExecutes : Prop :=
  ∀ (cfg : Config) (mem : Mem) (name : String) (k : Nat), cfg.model = .other name →
    core.run k (State.construct cfg mem) = .next (State.construct cfg mem)

/-- Every transaction is answered as the behaviour at its address says, and changes nothing else (R51, R52, R64): `ram` stores a
write and answers the byte written there, `rom` ignores a write, an external read answers the host's next byte and uses it up
(with none left, some byte: log entry 21), and memory stays canonical. The three behaviours are the model's form of the argument
`MEM` (log entry 2). -/
def Obligations.MemoryReadAfterWrite : Prop :=
  ∀ (s : State) (a : Word) (v : Byte), s.mem.wf = true →
    let t := s.memWrite a v
    (s.kindAt a = .ram → t.peek a = v ∧ (t.memRead a).1 = v) ∧ (s.kindAt a ≠ .ram → t.peek a = s.peek a) ∧
    (∀ b : Word, b ≠ a → t.peek b = s.peek b) ∧ t.mem.wf = true ∧
    t = { s with mem := t.mem, trace := .write a v :: s.trace } ∧
    (s.kindAt a ≠ .external → s.memRead a = (s.peek a, { s with trace := .read a (s.peek a) :: s.trace })) ∧
    (s.kindAt a = .external →
      (∀ w rest, s.answers = w :: rest → s.memRead a = (w, { s with answers := rest, trace := .read a w :: s.trace })) ∧
      (s.answers = [] → ∃ w, s.memRead a = (w, { s with trace := .read a w :: s.trace }))) ∧
    (s.regions = [] → s.kindAt a = .ram) ∧
    (∀ r rest, s.regions = r :: rest →
      s.kindAt a = if r.first ≤ a ∧ a ≤ r.last then r.kind else State.kindAt { s with regions := rest } a)

/-! ## The sequencer -/

/-- A boundary that dispatches runs the instruction that the bytes read from PC on decode to (R82, R83): PC past its bytes, its
bytes read in order and no other, IME on if EI was pending, and nothing else changed before its own effect. Which boundary
dispatches with IME and EI pending at once is the model's choice (log entry 22). -/
def Obligations.StepRunsTheDecodedInstruction : Prop :=
  ∀ (s : State) (i : Instr) (rest : List Byte), s.dispatches → s.haltBug = false →
    decode (s.stream s.pc 3) = .ok (i, rest) →
    let evs := s.readEvents s.pc (3 - rest.length)
    step s = exec i { s.sampleInputs with
      cr := 0
      ime := s.ime || s.eiPending
      eiPending := false
      opcodeAddr := s.pc
      pc := s.pc + BitVec.ofNat 16 (3 - rest.length)
      answers := s.answers.drop (s.externalReads evs)
      trace := evs.reverse ++ s.trace }

/-- After the halt bug the opcode fetch does not increment PC (R83, R281): the byte at PC is read twice, as the opcode and as the
first operand byte, and PC ends one byte earlier. Which boundary dispatches with IME and EI pending at once is the model's choice
(log entry 22). -/
def Obligations.HaltBugFetchDoesNotAdvancePc : Prop :=
  ∀ (s : State) (i : Instr) (rest : List Byte), s.dispatches → s.haltBug = true →
    let u := s.afterRead s.pc
    decode (s.answer s.pc :: u.stream s.pc 2) = .ok (i, rest) →
    let evs := .read s.pc (s.answer s.pc) :: u.readEvents s.pc (2 - rest.length)
    step s = exec i { s.sampleInputs with
      cr := 0
      ime := s.ime || s.eiPending
      eiPending := false
      haltBug := false
      opcodeAddr := s.pc
      pc := s.pc + BitVec.ofNat 16 (2 - rest.length)
      answers := s.answers.drop (s.externalReads evs)
      trace := evs.reverse ++ s.trace }

/-- "An action that loads `cr <- k` occupies exactly k ticks" (R81): the ticks before the last only decrement. -/
def Obligations.BusyTicksOnlyCountDown : Prop :=
  (∀ s : State, s.dead = false → 1 < s.cr → step s = .next { s.sampleInputs with cr := s.cr - 1 }) ∧
  (∀ (s : State) (k : Nat), s.dead = false → s.inputs = [] → k < s.cr → core.run k s = .next { s with cr := s.cr - k })

/-- R304, R305: a faulted or locked core stays exactly as it is, however often it is ticked. -/
def Obligations.FaultedOrLockedCoreStaysAsItIs : Prop :=
  ∀ (s : State) (k : Nat), s.fault ≠ .none ∨ s.locked = true → core.run k s = .next s

/-- The boundary of a waiting core (R315, R316): woken, it spends 4 ticks and leaves the wait; not woken, it only sees this tick's
input levels. `stopped` is looked at first (R82). -/
def Obligations.StoppedAndHaltedCoresWaitForTheirWakeUp : Prop :=
  ∀ s : State, s.dead = false → s.cr ≤ 1 →
    let u := s.sampleInputs
    (s.stopped = true →
      step s = .next (if s.cfg.stopWakeConnected && u.stopWake then { u with stopped := false, cr := 4 }
        else { u with cr := 0 })) ∧
    (s.stopped = false → s.halted = true →
      step s = .next (if s.cfg.irqConnected = true ∧ u.irqReq ≠ 0#5 then { u with halted := false, cr := 4 }
        else { u with cr := 0 }))

/-- Interrupt acceptance and entry (R307 to R310): IME and `ei_pending` cleared, PC pushed high byte first, the vector of the
lowest requested line, the acknowledgement, 20 ticks, and nothing else. That it is taken whatever `ei_pending` holds is the model's
choice (log entry 22). -/
def Obligations.InterruptEntryAtABoundary : Prop :=
  ∀ (s : State) (n : Fin 5), s.running = true → s.cr ≤ 1 → s.ime = true → s.cfg.irqConnected = true →
    s.sampleInputs.irqReq.getLsbD n.val = true → (∀ m : Fin 5, m < n → s.sampleInputs.irqReq.getLsbD m.val = false) →
    ∃ t, step s = .next t ∧
      t.ime = false ∧ t.eiPending = false ∧ t.pc.toNat = 0x40 + 8 * n.val ∧ t.sp = s.sp - 2#16 ∧ t.cr = 20 ∧
      State.StoresOnly [(s.sp - 1#16, highByte s.pc), (s.sp - 2#16, lowByte s.pc)] s t ∧
      State.Transacts [.write (s.sp - 1#16) (highByte s.pc), .write (s.sp - 2#16) (lowByte s.pc), .irqAck n] s t ∧
      State.SameRegsExcept [] s t ∧ t.f = s.f ∧ t.halted = false ∧ t.stopped = false ∧ t.haltBug = s.haltBug ∧
      t.locked = false ∧ t.fault = .none ∧ t.cfg = s.cfg ∧ t.opcodeAddr = s.opcodeAddr ∧
      t.irqReq = s.sampleInputs.irqReq ∧ t.stopWake = s.sampleInputs.stopWake ∧ t.inputs = s.sampleInputs.inputs ∧
      t.regions = s.regions

/-! ## The whole machine -/

/-- Every tick of every state ends in a next state: no access fails, no instruction traps, every opcode decodes (R53, R99, R300). -/
def Obligations.EveryTickAnswersANextState : Prop :=
  ∀ s : State, ∃ t, step s = .next t

/-- The invariant is kept by every tick, from every state that satisfies it. -/
def Obligations.TickKeepsTheMachineInvariant : Prop :=
  ∀ s t : State, s.Inv → step s = .next t → t.Inv

/-- The invariant holds after every construction with a canonical memory, and after reset. -/
def Obligations.ConstructionMeetsTheMachineInvariant : Prop :=
  State.reset.Inv ∧ ∀ (cfg : Config) (mem : Mem), mem.contents.wf = true → (State.construct cfg mem).Inv

/-- The cost an instruction loads into `cr` is its row's in the table of R95 and R96; a conditional row has its two costs, and the
taken one exactly when its condition holds (R104, R201). -/
def Obligations.CostIsTheTablesForEveryInstruction : Prop :=
  (∀ (i : Instr) (s t : State), exec i s = .next t → t.cr = instrCycles i ∨ t.cr = instrCyclesTaken i) ∧
  (∀ (cc : Cond) (a : Word) (e : Byte) (s t : State),
    (exec (Instr.jpCond cc a) s = .next t → t.cr = if s.cond cc then 16 else 12) ∧
    (exec (Instr.jrCond cc e) s = .next t → t.cr = if s.cond cc then 12 else 8) ∧
    (exec (Instr.callCond cc a) s = .next t → t.cr = if s.cond cc then 24 else 12) ∧
    (exec (Instr.retCond cc) s = .next t → t.cr = if s.cond cc then 20 else 8))

/-- Which instructions write the interrupt, wait, lock and fault state (R28, R29, R34); none writes the configuration, the
memory's behaviour or the inputs. -/
def Obligations.ControlStateHasOnlyItsWriters : Prop :=
  ∀ (i : Instr) (s t : State), exec i s = .next t →
    (t.ime ≠ s.ime → i = .di ∨ i = .reti) ∧ (t.eiPending ≠ s.eiPending → i = .ei ∨ i = .di) ∧
    (t.halted ≠ s.halted → i = .halt) ∧ (t.haltBug ≠ s.haltBug → i = .halt) ∧
    (t.stopped ≠ s.stopped → ∃ x, i = .stop x) ∧ (t.locked ≠ s.locked → ∃ u, i = Instr.unused u) ∧
    (t.fault ≠ s.fault → ∃ u, i = Instr.unused u) ∧ t.cfg = s.cfg ∧ t.irqReq = s.irqReq ∧ t.stopWake = s.stopWake ∧
    t.inputs = s.inputs ∧ t.opcodeAddr = s.opcodeAddr ∧ t.regions = s.regions

/-- Only the instructions R25 lists write SP. -/
def Obligations.StackPointerHasOnlyItsWriters : Prop :=
  ∀ (i : Instr) (s t : State), exec i s = .next t → t.sp ≠ s.sp → mayWriteSp i

/-- Only the instructions with an entry in R24's table write F. -/
def Obligations.FlagsHaveOnlyTheirWriters : Prop :=
  ∀ (i : Instr) (s t : State), exec i s = .next t → t.f ≠ s.f → mayWriteFlags i

/-- Only the instructions R34 lists write memory, and an instruction only adds to the trace, using up the host's answers by its
external reads alone. -/
def Obligations.MemoryHasOnlyItsWriters : Prop :=
  ∀ (i : Instr) (s t : State), exec i s = .next t →
    (∃ evs, State.Transacts evs s t) ∧
    (¬ mayWriteMemory i → (∀ a, t.peek a = s.peek a) ∧ ∀ a v, .write a v ∈ t.trace → .write a v ∈ s.trace)

/-- A tick leaves a wait only through its wake-up input, and enters one only from a running core; it never leaves a lock-up or a
fault, and enters one only from a running core in its mode (R320, R285, R315, R316). The configuration and the memory's behaviour
stay. -/
def Obligations.WaitsAreLeftOnlyByTheirInputs : Prop :=
  ∀ s t : State, step s = .next t →
    (s.halted = true → t.halted = false → s.cfg.irqConnected = true ∧ s.sampleInputs.irqReq ≠ 0#5 ∧ s.cr ≤ 1) ∧
    (s.stopped = true → t.stopped = false → s.cfg.stopWakeConnected = true ∧ s.sampleInputs.stopWake = true ∧ s.cr ≤ 1) ∧
    (s.halted = false → t.halted = true → s.running = true) ∧ (s.stopped = false → t.stopped = true → s.running = true) ∧
    (s.locked = true → t = s) ∧ (s.fault ≠ .none → t = s) ∧
    (s.locked = false → t.locked = true → s.cfg.illegalOpcodeMode = .lockup ∧ s.running = true) ∧
    (s.fault = .none → t.fault ≠ .none → s.cfg.illegalOpcodeMode = .fatal ∧ s.running = true) ∧
    t.cfg = s.cfg ∧ t.regions = s.regions

/-- R351: once the count is down, a run is over exactly when no input level makes a tick change the state. -/
def Obligations.RunIsOverExactlyWhenNoTickChangesAnything : Prop :=
  ∀ s : State, s.Inv → s.cr = 0 → s.inputs = [] →
    (s.runOver = true ↔ ∀ lv : Inputs,
      step { s with irqReq := lv.irqReq, stopWake := lv.stopWake } =
        .next { s with irqReq := lv.irqReq, stopWake := lv.stopWake })

/-- With the two inputs not connected (the default), the levels on the ports change nothing (R6, R306, R316). -/
def Obligations.UnconnectedInputsDoNotMatter : Prop :=
  ∀ (s t : State) (lv : Inputs), s.cfg.irqConnected = false → s.cfg.stopWakeConnected = false → s.inputs = [] →
    step s = .next t →
    step { s with irqReq := lv.irqReq, stopWake := lv.stopWake } =
      .next { t with irqReq := lv.irqReq, stopWake := lv.stopWake }

/-! ## 8-bit loads -/

/-- LD r,r' and LD r,d8 (R111, R112). -/
def Obligations.RegisterLoadsCopyTheirSource : Prop :=
  ∀ (dst src : Reg) (n : Byte) (s : State),
    (encode (Instr.ldRegReg dst src) = [BitVec.ofNat 8 (0x40 + 8 * dst.code + src.code)] ∧
      ∃ t, exec (Instr.ldRegReg dst src) s = .next t ∧ t.reg dst = s.reg src ∧ State.SameRegsExcept [dst] s t ∧
        t.f = s.f ∧ t.sp = s.sp ∧ t.pc = s.pc ∧ t.cr = 4 ∧ State.SameMemory s t ∧ State.Transacts [] s t ∧
        State.SameControl s t) ∧
    (encode (Instr.ldRegImm dst n) = [BitVec.ofNat 8 (0x06 + 8 * dst.code), n] ∧
      ∃ t, exec (Instr.ldRegImm dst n) s = .next t ∧ t.reg dst = n ∧ State.SameRegsExcept [dst] s t ∧
        t.f = s.f ∧ t.sp = s.sp ∧ t.pc = s.pc ∧ t.cr = 8 ∧ State.SameMemory s t ∧ State.Transacts [] s t ∧
        State.SameControl s t)

/-- LD r,(HL) (R113): the address is HL as it was, also for H and L. -/
def Obligations.LdRegAtHlReadsTheByteAtHl : Prop :=
  ∀ (dst : Reg) (s : State),
    encode (Instr.ldRegAtHl dst) = [BitVec.ofNat 8 (0x46 + 8 * dst.code)] ∧
    ∃ t, exec (Instr.ldRegAtHl dst) s = .next t ∧ t.reg dst = s.answer s.hl ∧ State.SameRegsExcept [dst] s t ∧
      t.f = s.f ∧ t.sp = s.sp ∧ t.pc = s.pc ∧ t.cr = 8 ∧ State.SameMemory s t ∧
      State.Transacts [.read s.hl (s.answer s.hl)] s t ∧ State.SameControl s t

/-- LD (HL),r and LD (HL),d8 (R114, R115). -/
def Obligations.LdAtHlStoresOneByteAtHl : Prop :=
  ∀ (src : Reg) (n : Byte) (s : State),
    (encode (Instr.ldAtHlReg src) = [BitVec.ofNat 8 (0x70 + src.code)] ∧
      ∃ t, exec (Instr.ldAtHlReg src) s = .next t ∧ State.StoresOnly [(s.hl, s.reg src)] s t ∧
        State.SameRegsExcept [] s t ∧ t.f = s.f ∧ t.sp = s.sp ∧ t.pc = s.pc ∧ t.cr = 8 ∧
        State.Transacts [.write s.hl (s.reg src)] s t ∧ State.SameControl s t) ∧
    (encode (.ldAtHlD8 n) = [0x36#8, n] ∧
      ∃ t, exec (.ldAtHlD8 n) s = .next t ∧ State.StoresOnly [(s.hl, n)] s t ∧
        State.SameRegsExcept [] s t ∧ t.f = s.f ∧ t.sp = s.sp ∧ t.pc = s.pc ∧ t.cr = 12 ∧
        State.Transacts [.write s.hl n] s t ∧ State.SameControl s t)

/-- The loads of A from (BC), (DE), (a16), and the high page at C and at a8 (R116, R117, R120, R122, R124): the row, its bytes, the
address it reads and its cost. -/
def Obligations.LoadsOfAReadTheirAddress : Prop :=
  ∀ (s : State) (a : Word) (n : Byte) (i : Instr) (bytes : List Byte) (addr : Word) (cost : Nat),
    (i, bytes, addr, cost) ∈
      [(Instr.ldAAtBc, [0x0A#8], s.bc, 8), (.ldAAtDe, [0x1A#8], s.de, 8),
       (.ldAAtA16 a, [0xFA#8, lowByte a, highByte a], a, 16),
       (.ldhAAtC, [0xF2#8], joinBytes 0xFF#8 s.c, 8), (.ldhAAtA8 n, [0xF0#8, n], joinBytes 0xFF#8 n, 12)] →
    encode i = bytes ∧
    ∃ t, exec i s = .next t ∧ t.a = s.answer addr ∧ State.SameRegsExcept [.a] s t ∧
      t.f = s.f ∧ t.sp = s.sp ∧ t.pc = s.pc ∧ t.cr = cost ∧ State.SameMemory s t ∧
      State.Transacts [.read addr (s.answer addr)] s t ∧ State.SameControl s t

/-- The stores of A to (BC), (DE), (a16), and the high page at C and at a8 (R118, R119, R121, R123, R125). -/
def Obligations.StoresOfAWriteTheirAddress : Prop :=
  ∀ (s : State) (a : Word) (n : Byte) (i : Instr) (bytes : List Byte) (addr : Word) (cost : Nat),
    (i, bytes, addr, cost) ∈
      [(Instr.ldAtBcA, [0x02#8], s.bc, 8), (.ldAtDeA, [0x12#8], s.de, 8),
       (.ldAtA16A a, [0xEA#8, lowByte a, highByte a], a, 16),
       (.ldhAtCA, [0xE2#8], joinBytes 0xFF#8 s.c, 8), (.ldhAtA8A n, [0xE0#8, n], joinBytes 0xFF#8 n, 12)] →
    encode i = bytes ∧
    ∃ t, exec i s = .next t ∧ State.StoresOnly [(addr, s.a)] s t ∧ State.SameRegsExcept [] s t ∧
      t.f = s.f ∧ t.sp = s.sp ∧ t.pc = s.pc ∧ t.cr = cost ∧ State.Transacts [.write addr s.a] s t ∧
      State.SameControl s t

/-- LD A,(HL+), LD A,(HL-), LD (HL+),A and LD (HL-),A (R126 to R129): the access at the old HL, then HL stepped modulo 2^16. -/
def Obligations.HlStepsAfterTheAccess : Prop :=
  ∀ (s : State) (i : Instr) (bytes : List Byte) (hl : Word),
    ((i, bytes, hl) ∈ [(Instr.ldAAtHlInc, [0x2A#8], s.hl + 1#16), (.ldAAtHlDec, [0x3A#8], s.hl - 1#16)] →
      encode i = bytes ∧
      ∃ t, exec i s = .next t ∧ t.a = s.answer s.hl ∧ t.hl = hl ∧ State.SameRegsExcept [.a, .h, .l] s t ∧
        t.f = s.f ∧ t.sp = s.sp ∧ t.pc = s.pc ∧ t.cr = 8 ∧ State.SameMemory s t ∧
        State.Transacts [.read s.hl (s.answer s.hl)] s t ∧ State.SameControl s t) ∧
    ((i, bytes, hl) ∈ [(Instr.ldAtHlIncA, [0x22#8], s.hl + 1#16), (.ldAtHlDecA, [0x32#8], s.hl - 1#16)] →
      encode i = bytes ∧
      ∃ t, exec i s = .next t ∧ State.StoresOnly [(s.hl, s.a)] s t ∧ t.hl = hl ∧ State.SameRegsExcept [.h, .l] s t ∧
        t.f = s.f ∧ t.sp = s.sp ∧ t.pc = s.pc ∧ t.cr = 8 ∧ State.Transacts [.write s.hl s.a] s t ∧
        State.SameControl s t)

/-! ## 16-bit loads and arithmetic -/

/-- LD rr,d16 (R141). -/
def Obligations.LdPairImmLoadsTheWord : Prop :=
  ∀ (p : Pair) (v : Word) (s : State),
    encode (Instr.ldPairImm p v) = [BitVec.ofNat 8 (0x01 + 16 * p.code), lowByte v, highByte v] ∧
    ∃ t, exec (Instr.ldPairImm p v) s = .next t ∧ t.pair p = v ∧ State.SameRegsExcept (pairRegs p) s t ∧
      (p ≠ .sp → t.sp = s.sp) ∧ t.f = s.f ∧ t.pc = s.pc ∧ t.cr = 12 ∧ State.SameMemory s t ∧ State.Transacts [] s t ∧
      State.SameControl s t

/-- LD (a16),SP (R142): the low byte of SP at a16, then the high byte at a16 + 1. -/
def Obligations.LdAtA16SpStoresLowByteFirst : Prop :=
  ∀ (a : Word) (s : State),
    encode (.ldAtA16Sp a) = [0x08#8, lowByte a, highByte a] ∧
    ∃ t, exec (.ldAtA16Sp a) s = .next t ∧
      State.StoresOnly [(a, lowByte s.sp), (a + 1#16, highByte s.sp)] s t ∧
      State.Transacts [.write a (lowByte s.sp), .write (a + 1#16) (highByte s.sp)] s t ∧
      State.SameRegsExcept [] s t ∧ t.f = s.f ∧ t.sp = s.sp ∧ t.pc = s.pc ∧ t.cr = 20 ∧ State.SameControl s t

/-- INC rr, DEC rr and LD SP,HL (R192, R193, R143): modulo 2^16, no flag. -/
def Obligations.PairStepsWrapAndWriteNoFlag : Prop :=
  ∀ (p : Pair) (s : State),
    (encode (Instr.incPair p) = [BitVec.ofNat 8 (0x03 + 16 * p.code)] ∧
      ∃ t, exec (Instr.incPair p) s = .next t ∧ (t.pair p).toNat = ((s.pair p).toNat + 1) % 65536 ∧
        State.SameRegsExcept (pairRegs p) s t ∧ (p ≠ .sp → t.sp = s.sp) ∧ t.f = s.f ∧ t.pc = s.pc ∧ t.cr = 8 ∧
        State.SameMemory s t ∧ State.Transacts [] s t ∧ State.SameControl s t) ∧
    (encode (Instr.decPair p) = [BitVec.ofNat 8 (0x0B + 16 * p.code)] ∧
      ∃ t, exec (Instr.decPair p) s = .next t ∧ (t.pair p).toNat = ((s.pair p).toNat + 65535) % 65536 ∧
        State.SameRegsExcept (pairRegs p) s t ∧ (p ≠ .sp → t.sp = s.sp) ∧ t.f = s.f ∧ t.pc = s.pc ∧ t.cr = 8 ∧
        State.SameMemory s t ∧ State.Transacts [] s t ∧ State.SameControl s t) ∧
    (encode .ldSpHl = [0xF9#8] ∧
      ∃ t, exec .ldSpHl s = .next t ∧ t.sp = s.hl ∧ State.SameRegsExcept [] s t ∧ t.f = s.f ∧ t.pc = s.pc ∧
        t.cr = 8 ∧ State.SameMemory s t ∧ State.Transacts [] s t ∧ State.SameControl s t)

/-- LD HL,SP+e8 and ADD SP,e8 (R144, R194): the offset is signed; H and C come from the unsigned sum of the low bytes; Z is 0. -/
def Obligations.SpPlusOffsetFormsAgreeOnFlags : Prop :=
  ∀ (e : Byte) (s : State),
    (encode (.ldHlSpE8 e) = [0xF8#8, e] ∧
      ∃ t, exec (.ldHlSpE8 e) s = .next t ∧ ((t.hl.toNat : Int) = (s.sp.toNat + e.toInt) % 65536) ∧
        State.FlagsAre t false false (decide (s.sp.toNat % 16 + e.toNat % 16 > 15))
          (decide (s.sp.toNat % 256 + e.toNat > 255)) ∧
        State.SameRegsExcept [.h, .l] s t ∧ t.sp = s.sp ∧ t.pc = s.pc ∧ t.cr = 12 ∧ State.SameMemory s t ∧
        State.Transacts [] s t ∧ State.SameControl s t) ∧
    (encode (.addSpE8 e) = [0xE8#8, e] ∧
      ∃ t, exec (.addSpE8 e) s = .next t ∧ ((t.sp.toNat : Int) = (s.sp.toNat + e.toInt) % 65536) ∧
        State.FlagsAre t false false (decide (s.sp.toNat % 16 + e.toNat % 16 > 15))
          (decide (s.sp.toNat % 256 + e.toNat > 255)) ∧
        State.SameRegsExcept [] s t ∧ t.pc = s.pc ∧ t.cr = 16 ∧ State.SameMemory s t ∧ State.Transacts [] s t ∧
        State.SameControl s t)

/-- ADD HL,rr (R191): H from bit 11, C from bit 15, Z kept. -/
def Obligations.AddHlPairCarriesFromBits11And15 : Prop :=
  ∀ (p : Pair) (s : State),
    encode (Instr.addHlPair p) = [BitVec.ofNat 8 (0x09 + 16 * p.code)] ∧
    ∃ t, exec (Instr.addHlPair p) s = .next t ∧ t.hl.toNat = (s.hl.toNat + (s.pair p).toNat) % 65536 ∧
      State.FlagsAre t s.flagZ false (decide (s.hl.toNat % 4096 + (s.pair p).toNat % 4096 > 4095))
        (decide (s.hl.toNat + (s.pair p).toNat > 65535)) ∧
      State.SameRegsExcept [.h, .l] s t ∧ t.sp = s.sp ∧ t.pc = s.pc ∧ t.cr = 8 ∧ State.SameMemory s t ∧
      State.Transacts [] s t ∧ State.SameControl s t

/-! ## 8-bit arithmetic and logic -/

/-- ADD and ADC in their three forms (R150 to R157). -/
def Obligations.AddAndAdcAddWithCarries : Prop :=
  ∀ (withCarry : Bool) (src : AluSource) (s : State),
    let op := if withCarry then AluOp.adc else AluOp.add
    let v := (src.value s).toNat
    let cin := if withCarry && s.flagC then 1 else 0
    encode (src.instr op) = src.bytes op ∧
    ∃ t, exec (src.instr op) s = .next t ∧ t.a.toNat = (s.a.toNat + v + cin) % 256 ∧
      State.FlagsAre t (decide (t.a = 0#8)) false (decide (s.a.toNat % 16 + v % 16 + cin > 15))
        (decide (s.a.toNat + v + cin > 255)) ∧
      State.SameRegsExcept [.a] s t ∧ t.sp = s.sp ∧ t.pc = s.pc ∧ t.cr = src.cost ∧ State.SameMemory s t ∧
      State.Transacts (src.reads s) s t ∧ State.SameControl s t

/-- SUB and SBC in their three forms (R150, R151, R158 to R163): H and C are borrows. -/
def Obligations.SubAndSbcSubtractWithBorrows : Prop :=
  ∀ (withCarry : Bool) (src : AluSource) (s : State),
    let op := if withCarry then AluOp.sbc else AluOp.sub
    let v := (src.value s).toNat
    let cin := if withCarry && s.flagC then 1 else 0
    encode (src.instr op) = src.bytes op ∧
    ∃ t, exec (src.instr op) s = .next t ∧ t.a.toNat = (s.a.toNat + 512 - v - cin) % 256 ∧
      State.FlagsAre t (decide (t.a = 0#8)) true (decide (s.a.toNat % 16 < v % 16 + cin)) (decide (s.a.toNat < v + cin)) ∧
      State.SameRegsExcept [.a] s t ∧ t.sp = s.sp ∧ t.pc = s.pc ∧ t.cr = src.cost ∧ State.SameMemory s t ∧
      State.Transacts (src.reads s) s t ∧ State.SameControl s t

/-- AND, XOR and OR in their three forms (R150, R164 to R172), bit by bit: H is 1 for AND only, C is 0. -/
def Obligations.LogicOperationsActBitByBit : Prop :=
  ∀ (op : AluOp) (src : AluSource) (s : State), op ∈ [AluOp.and, .xor, .or] →
    encode (src.instr op) = src.bytes op ∧
    ∃ t, exec (src.instr op) s = .next t ∧
      (∀ k < 8, t.a.getLsbD k = (match op with
        | .and => s.a.getLsbD k && (src.value s).getLsbD k
        | .xor => s.a.getLsbD k != (src.value s).getLsbD k
        | _ => s.a.getLsbD k || (src.value s).getLsbD k)) ∧
      State.FlagsAre t (decide (t.a = 0#8)) false (decide (op = .and)) false ∧
      State.SameRegsExcept [.a] s t ∧ t.sp = s.sp ∧ t.pc = s.pc ∧ t.cr = src.cost ∧ State.SameMemory s t ∧
      State.Transacts (src.reads s) s t ∧ State.SameControl s t

/-- CP in its three forms (R150, R173 to R175): the flags of SUB, and A is not written. -/
def Obligations.CpSetsTheFlagsOfSubAndKeepsA : Prop :=
  ∀ (src : AluSource) (s : State),
    let v := (src.value s).toNat
    encode (src.instr .cp) = src.bytes .cp ∧
    ∃ t, exec (src.instr .cp) s = .next t ∧
      State.FlagsAre t (decide (s.a.toNat = v)) true (decide (s.a.toNat % 16 < v % 16)) (decide (s.a.toNat < v)) ∧
      State.SameRegsExcept [] s t ∧ t.sp = s.sp ∧ t.pc = s.pc ∧ t.cr = src.cost ∧ State.SameMemory s t ∧
      State.Transacts (src.reads s) s t ∧ State.SameControl s t

/-- INC r and INC (HL) (R176, R177): C is kept. -/
def Obligations.IncKeepsCarry : Prop :=
  ∀ (o : Operand8) (s : State),
    let v := (s.operand o).toNat
    encode (Instr.inc8 o) = [BitVec.ofNat 8 (0x04 + 8 * o.code)] ∧
    ∃ t, exec (Instr.inc8 o) s = .next t ∧ State.Updates o (BitVec.ofNat 8 (v + 1)) s t ∧
      State.FlagsAre t (decide ((v + 1) % 256 = 0)) false (decide (v % 16 = 15)) s.flagC ∧
      t.sp = s.sp ∧ t.pc = s.pc ∧ t.cr = (if o = .atHl then 12 else 4) ∧ State.SameControl s t

/-- DEC r and DEC (HL) (R178, R179): C is kept. -/
def Obligations.DecKeepsCarry : Prop :=
  ∀ (o : Operand8) (s : State),
    let v := (s.operand o).toNat
    encode (Instr.dec8 o) = [BitVec.ofNat 8 (0x05 + 8 * o.code)] ∧
    ∃ t, exec (Instr.dec8 o) s = .next t ∧ State.Updates o (BitVec.ofNat 8 (v + 255)) s t ∧
      State.FlagsAre t (decide (v = 1)) true (decide (v % 16 = 0)) s.flagC ∧
      t.sp = s.sp ∧ t.pc = s.pc ∧ t.cr = (if o = .atHl then 12 else 4) ∧ State.SameControl s t

/-- DAA on every value of A, N, H and C (R180): the adjustments on integers. -/
def Obligations.DaaAdjustsEveryInput : Prop :=
  ∀ s : State,
    let v := s.a.toNat
    let high := s.flagC || (!s.flagN && decide (v > 0x99))
    let low := s.flagH || (!s.flagN && decide (v % 16 > 9))
    let adjust := (if high then 0x60 else 0) + (if low then 0x06 else 0)
    encode .daa = [0x27#8] ∧
    ∃ t, exec .daa s = .next t ∧ t.a.toNat = (if s.flagN then v + 512 - adjust else v + adjust) % 256 ∧
      State.FlagsAre t (decide (t.a = 0#8)) s.flagN false high ∧
      State.SameRegsExcept [.a] s t ∧ t.sp = s.sp ∧ t.pc = s.pc ∧ t.cr = 4 ∧ State.SameMemory s t ∧
      State.Transacts [] s t ∧ State.SameControl s t

/-- "decimal adjust of A after a BCD addition or subtraction" (R180): ADD or SUB of two-digit decimals and then DAA give the
two-digit decimal result, and C is the decimal carry or borrow. -/
def Obligations.DaaCorrectsDecimalAdditionAndSubtraction : Prop :=
  ∀ (x y : Nat) (s : State), x < 100 → y < 100 → s.a = bcd x →
    (∃ t u, exec (.addAD8 (bcd y)) s = .next t ∧ exec .daa t = .next u ∧ u.a = bcd ((x + y) % 100) ∧
      u.flagC = decide (x + y ≥ 100)) ∧
    (∃ t u, exec (.subD8 (bcd y)) s = .next t ∧ exec .daa t = .next u ∧ u.a = bcd ((x + 100 - y) % 100) ∧
      u.flagC = decide (x < y))

/-- CPL, SCF and CCF (R181 to R183). -/
def Obligations.CplScfAndCcfWriteTheirFlags : Prop :=
  ∀ (s : State) (i : Instr) (op a : Byte) (n h c : Bool),
    (i, op, a, n, h, c) ∈ [(Instr.cpl, 0x2F#8, BitVec.ofNat 8 (255 - s.a.toNat), true, true, s.flagC),
      (.scf, 0x37#8, s.a, false, false, true), (.ccf, 0x3F#8, s.a, false, false, !s.flagC)] →
    encode i = [op] ∧
    ∃ t, exec i s = .next t ∧ t.a = a ∧ State.FlagsAre t s.flagZ n h c ∧ State.SameRegsExcept [.a] s t ∧
      t.sp = s.sp ∧ t.pc = s.pc ∧ t.cr = 4 ∧ State.SameMemory s t ∧ State.Transacts [] s t ∧ State.SameControl s t

/-! ## Control transfer -/

/-- JP a16, JP HL and JR e8 (R202, R204, R205). JP HL makes no memory access. -/
def Obligations.UnconditionalJumpsReachTheirTarget : Prop :=
  ∀ (s : State) (a : Word) (e : Byte) (i : Instr) (bytes : List Byte) (target : Int) (cost : Nat),
    (i, bytes, target, cost) ∈ [(Instr.jpA16 a, [0xC3#8, lowByte a, highByte a], (a.toNat : Int), 16),
      (.jpHl, [0xE9#8], (s.hl.toNat : Int), 4),
      (.jrE8 e, [0x18#8, e], (s.pc.toNat + e.toInt) % 65536, 12)] →
    encode i = bytes ∧
    ∃ t, exec i s = .next t ∧ (t.pc.toNat : Int) = target ∧ t.cr = cost ∧ State.SameRegsExcept [] s t ∧ t.f = s.f ∧
      t.sp = s.sp ∧ State.SameMemory s t ∧ State.Transacts [] s t ∧ State.SameControl s t

/-- JP cc,a16 and JR cc,e8 (R200, R203, R206): taken exactly when the condition holds. -/
def Obligations.ConditionalJumpsFollowTheirCondition : Prop :=
  ∀ (cc : Cond) (a : Word) (e : Byte) (s : State),
    let holds := s.holds cc
    (encode (Instr.jpCond cc a) = [BitVec.ofNat 8 (0xC2 + 8 * cc.code), lowByte a, highByte a] ∧
      ∃ t, exec (Instr.jpCond cc a) s = .next t ∧ t.pc = (if holds then a else s.pc) ∧
        t.cr = (if holds then 16 else 12) ∧ State.SameRegsExcept [] s t ∧ t.f = s.f ∧ t.sp = s.sp ∧
        State.SameMemory s t ∧ State.Transacts [] s t ∧ State.SameControl s t) ∧
    (encode (Instr.jrCond cc e) = [BitVec.ofNat 8 (0x20 + 8 * cc.code), e] ∧
      ∃ t, exec (Instr.jrCond cc e) s = .next t ∧
        (t.pc.toNat : Int) = (if holds then (s.pc.toNat + e.toInt) % 65536 else s.pc.toNat) ∧
        t.cr = (if holds then 12 else 8) ∧ State.SameRegsExcept [] s t ∧ t.f = s.f ∧ t.sp = s.sp ∧
        State.SameMemory s t ∧ State.Transacts [] s t ∧ State.SameControl s t)

/-- CALL a16, CALL cc,a16 and RST t (R207, R208, R212): the return address is pushed high byte first, at SP - 1 and SP - 2. -/
def Obligations.CallsPushTheReturnAddress : Prop :=
  ∀ (a : Word) (cc : Cond) (n : Fin 8) (s : State),
    let holds := s.holds cc
    (encode (.callA16 a) = [0xCD#8, lowByte a, highByte a] ∧
      ∃ t, exec (.callA16 a) s = .next t ∧ calls a 24 s t) ∧
    (encode (Instr.callCond cc a) = [BitVec.ofNat 8 (0xC4 + 8 * cc.code), lowByte a, highByte a] ∧
      ∃ t, exec (Instr.callCond cc a) s = .next t ∧ (if holds then calls a 24 s t else fallsThrough 12 s t)) ∧
    (encode (Instr.rst n) = [BitVec.ofNat 8 (0xC7 + 8 * n.val)] ∧
      ∃ t, exec (Instr.rst n) s = .next t ∧ calls (BitVec.ofNat 16 (n.val * 8)) 16 s t)

/-- RET, RET cc and RETI (R209 to R211): the low byte is at SP. RETI also sets IME, and nothing else. -/
def Obligations.ReturnsPopPcAndRetiEnablesInterrupts : Prop :=
  ∀ (cc : Cond) (s : State),
    let holds := s.holds cc
    (encode .ret = [0xC9#8] ∧ ∃ t, exec .ret s = .next t ∧ returns 16 s t ∧ State.SameControl s t) ∧
    (encode (Instr.retCond cc) = [BitVec.ofNat 8 (0xC0 + 8 * cc.code)] ∧
      ∃ t, exec (Instr.retCond cc) s = .next t ∧
        (if holds then returns 20 s t ∧ State.SameControl s t else fallsThrough 8 s t)) ∧
    (encode .reti = [0xD9#8] ∧
      ∃ t, exec .reti s = .next t ∧ returns 16 s t ∧ t.ime = true ∧ State.SameControl { s with ime := true } t)

/-! ## The stack -/

/-- PUSH qq (R230): the high byte at SP - 1, then the low byte at SP - 2. -/
def Obligations.PushStoresHighByteThenLowByte : Prop :=
  ∀ (p : StackPair) (s : State),
    let v := stackPairBytes s p
    encode (Instr.push p) = [BitVec.ofNat 8 (0xC5 + 16 * p.code)] ∧
    ∃ t, exec (Instr.push p) s = .next t ∧ t.sp = s.sp - 2#16 ∧
      State.StoresOnly [(s.sp - 1#16, v.1), (s.sp - 2#16, v.2)] s t ∧
      State.Transacts [.write (s.sp - 1#16) v.1, .write (s.sp - 2#16) v.2] s t ∧
      State.SameRegsExcept [] s t ∧ t.f = s.f ∧ t.pc = s.pc ∧ t.cr = 16 ∧ State.SameControl s t

/-- POP qq (R231, R232): the low byte from SP, the high byte from SP + 1; into AF, F takes the high nibble of the low byte. -/
def Obligations.PopLoadsLowByteThenHighByte : Prop :=
  ∀ (p : StackPair) (s : State),
    let lo := s.popped.1
    let hi := s.popped.2
    encode (Instr.pop p) = [BitVec.ofNat 8 (0xC1 + 16 * p.code)] ∧
    ∃ t, exec (Instr.pop p) s = .next t ∧ t.sp = s.sp + 2#16 ∧
      (match p with
        | .bc => t.b = hi ∧ t.c = lo ∧ State.SameRegsExcept [.b, .c] s t ∧ t.f = s.f
        | .de => t.d = hi ∧ t.e = lo ∧ State.SameRegsExcept [.d, .e] s t ∧ t.f = s.f
        | .hl => t.h = hi ∧ t.l = lo ∧ State.SameRegsExcept [.h, .l] s t ∧ t.f = s.f
        | .af => t.a = hi ∧ t.f = lo &&& 0xF0#8 ∧ State.SameRegsExcept [.a] s t) ∧
      State.Transacts [.read s.sp lo, .read (s.sp + 1#16) hi] s t ∧ State.SameMemory s t ∧ t.pc = s.pc ∧
      t.cr = 12 ∧ State.SameControl s t

/-- "Push16 followed by Pop16 with no write in between returns v and leaves SP unchanged" (R59): PUSH and POP of any two pairs
leave SP, and where the two bytes lie in `ram` they move the value, and of one pair restore it, AF included. -/
def Obligations.PushThenPopMovesThePair : Prop :=
  ∀ (p q : StackPair) (s : State),
    ∃ t u, exec (Instr.push p) s = .next t ∧ exec (Instr.pop q) t = .next u ∧ u.sp = s.sp ∧
      (s.mem.wf = true → s.kindAt (s.sp - 1#16) = .ram → s.kindAt (s.sp - 2#16) = .ram →
        u.stackPair q = (if q = .af then s.stackPair p &&& 0xFFF0#16 else s.stackPair p) ∧
        (p = q → State.SameRegsExcept [] s u ∧ u.readF = s.readF))

/-! ## Rotates, shifts and single bits -/

/-- RLCA, RRCA, RLA and RRA (R240 to R243): Z is 0 whatever the result. -/
def Obligations.AccumulatorRotatesClearZero : Prop :=
  ∀ (s : State) (i : Instr) (op : Byte) (shift : ShiftOp),
    (i, op, shift) ∈ [(Instr.rlca, 0x07#8, ShiftOp.rlc), (.rrca, 0x0F#8, .rrc), (.rla, 0x17#8, .rl), (.rra, 0x1F#8, .rr)] →
    encode i = [op] ∧
    let r := shiftNat shift s.a.toNat (if s.flagC then 1 else 0)
    ∃ t, exec i s = .next t ∧ t.a.toNat = r.1 ∧ State.FlagsAre t false false false r.2 ∧
      State.SameRegsExcept [.a] s t ∧ t.sp = s.sp ∧ t.pc = s.pc ∧ t.cr = 4 ∧ State.SameMemory s t ∧
      State.Transacts [] s t ∧ State.SameControl s t

/-- The extended rotates and shifts of a register or of the byte at HL (R250 to R266): Z from the result. -/
def Obligations.ExtendedShiftsSetZeroFromTheResult : Prop :=
  ∀ (op : ShiftOp) (o : Operand8) (s : State),
    let r := shiftNat op (s.operand o).toNat (if s.flagC then 1 else 0)
    encode (Instr.shift8 op o) = [0xCB#8, BitVec.ofNat 8 (8 * op.code + o.code)] ∧
    ∃ t, exec (Instr.shift8 op o) s = .next t ∧ State.Updates o (BitVec.ofNat 8 r.1) s t ∧ r.1 < 256 ∧
      State.FlagsAre t (decide (r.1 = 0)) false false r.2 ∧
      t.sp = s.sp ∧ t.pc = s.pc ∧ t.cr = (if o = .atHl then 16 else 8) ∧ State.SameControl s t

/-- BIT b,r and BIT b,(HL) (R267, R268): Z is the complement of the bit, C is kept, the operand is not written. -/
def Obligations.BitTestsWriteOnlyFlags : Prop :=
  ∀ (n : Fin 8) (o : Operand8) (s : State),
    encode (Instr.bit8 n o) = [0xCB#8, BitVec.ofNat 8 (0x40 + 8 * n.val + o.code)] ∧
    ∃ t, exec (Instr.bit8 n o) s = .next t ∧
      State.FlagsAre t (decide ((s.operand o).toNat / 2 ^ n.val % 2 = 0)) false true s.flagC ∧
      State.SameRegsExcept [] s t ∧ State.SameMemory s t ∧
      State.Transacts (if o = .atHl then [.read s.hl (s.answer s.hl)] else []) s t ∧
      t.sp = s.sp ∧ t.pc = s.pc ∧ t.cr = (if o = .atHl then 12 else 8) ∧ State.SameControl s t

/-- RES and SET of a register or of the byte at HL (R269 to R272): one bit, no flag; the (HL) forms always write. -/
def Obligations.ResAndSetChangeOneBit : Prop :=
  ∀ (n : Fin 8) (o : Operand8) (s : State),
    (encode (Instr.res8 n o) = [0xCB#8, BitVec.ofNat 8 (0x80 + 8 * n.val + o.code)] ∧
      ∃ t v, exec (Instr.res8 n o) s = .next t ∧ State.Updates o v s t ∧
        (∀ k < 8, v.getLsbD k = (decide (k ≠ n.val) && (s.operand o).getLsbD k)) ∧
        t.f = s.f ∧ t.sp = s.sp ∧ t.pc = s.pc ∧ t.cr = (if o = .atHl then 16 else 8) ∧ State.SameControl s t) ∧
    (encode (Instr.set8 n o) = [0xCB#8, BitVec.ofNat 8 (0xC0 + 8 * n.val + o.code)] ∧
      ∃ t v, exec (Instr.set8 n o) s = .next t ∧ State.Updates o v s t ∧
        (∀ k < 8, v.getLsbD k = (decide (k = n.val) || (s.operand o).getLsbD k)) ∧
        t.f = s.f ∧ t.sp = s.sp ∧ t.pc = s.pc ∧ t.cr = (if o = .atHl then 16 else 8) ∧ State.SameControl s t)

/-! ## System -/

/-- NOP, DI, EI and STOP (R280, R282 to R284): the state each leaves, whole. -/
def Obligations.NopDiEiAndStopCompleteInFourTicks : Prop :=
  ∀ (x : Byte) (s : State) (i : Instr) (bytes : List Byte) (u : State),
    (i, bytes, u) ∈ [(Instr.nop, [0x00#8], s), (.di, [0xF3#8], { s with ime := false, eiPending := false }),
      (.ei, [0xFB#8], { s with eiPending := true }), (.stop x, [0x10#8, x], { s with stopped := true })] →
    encode i = bytes ∧
    ∃ t, exec i s = .next t ∧ t.cr = 4 ∧ State.SameRegsExcept [] s t ∧ t.f = s.f ∧ t.sp = s.sp ∧ t.pc = s.pc ∧
      State.SameMemory s t ∧ State.Transacts [] s t ∧ State.SameControl u t

/-- HALT (R281): with no request it halts; with a request and IME 0 it leaves the halt bug; with both it does nothing. -/
def Obligations.HaltWaitsUnlessARequestIsPending : Prop :=
  ∀ s : State,
    let pending := s.cfg.irqConnected && s.irqReq != 0#5
    encode .halt = [0x76#8] ∧
    ∃ t, exec .halt s = .next t ∧ t.cr = 4 ∧ State.SameRegsExcept [] s t ∧ t.f = s.f ∧ t.sp = s.sp ∧ t.pc = s.pc ∧
      State.SameMemory s t ∧ State.Transacts [] s t ∧
      (pending = false → State.SameControl { s with halted := true } t) ∧
      (pending = true → s.ime = false → State.SameControl { s with haltBug := true } t) ∧
      (pending = true → s.ime = true → State.SameControl s t)

/-- An unused opcode (R285, R303, R305) in each mode: a NOP, the fault with the opcode and its address, or the lock-up. -/
def Obligations.UnusedOpcodesFollowTheirMode : Prop :=
  ∀ (u : UnusedOpcode) (s : State),
    encode (Instr.unused u) = [u.byte] ∧
    ∃ t, exec (Instr.unused u) s = .next t ∧ t.cr = 4 ∧ State.SameRegsExcept [] s t ∧ t.f = s.f ∧ t.sp = s.sp ∧
      t.pc = s.pc ∧ State.SameMemory s t ∧ State.Transacts [] s t ∧
      (s.cfg.illegalOpcodeMode = .nop → State.SameControl s t) ∧
      (s.cfg.illegalOpcodeMode = .fatal →
        State.SameControl { s with fault := .unimplementedOpcode u.byte s.opcodeAddr } t) ∧
      (s.cfg.illegalOpcodeMode = .lockup → State.SameControl { s with locked := true } t)
end

