-- ==== Sys2Proof/Laws/Forms.lean ====
section
/-! SUPPORT. The 512 rows as 70 forms: what holds of every form holds of every instruction. A proof about all instructions goes
through this lemma, one case a form, and never through the 512 constructors. -/

namespace Sys2Proof

/-- A property of every form of R102 is a property of every instruction. -/
theorem Instr.forms {P : Instr → Prop}
    (ldRegReg : ∀ (x0 : Reg) (x1 : Reg), P (Instr.ldRegReg x0 x1))
    (ldRegImm : ∀ (x : Reg) (n : Byte), P (Instr.ldRegImm x n))
    (ldRegAtHl : ∀ (x0 : Reg), P (Instr.ldRegAtHl x0))
    (ldAtHlReg : ∀ (x0 : Reg), P (Instr.ldAtHlReg x0))
    (ldPairImm : ∀ (x : Pair) (v : Word), P (Instr.ldPairImm x v))
    (aluReg : ∀ (x0 : AluOp) (x1 : Reg), P (Instr.aluReg x0 x1))
    (aluAtHl : ∀ (x0 : AluOp), P (Instr.aluAtHl x0))
    (aluImm : ∀ (x : AluOp) (n : Byte), P (Instr.aluImm x n))
    (incReg : ∀ (x0 : Reg), P (Instr.incReg x0))
    (decReg : ∀ (x0 : Reg), P (Instr.decReg x0))
    (addHlPair : ∀ (x0 : Pair), P (Instr.addHlPair x0))
    (incPair : ∀ (x0 : Pair), P (Instr.incPair x0))
    (decPair : ∀ (x0 : Pair), P (Instr.decPair x0))
    (jpCond : ∀ (x : Cond) (a : Word), P (Instr.jpCond x a))
    (jrCond : ∀ (x : Cond) (e : Byte), P (Instr.jrCond x e))
    (callCond : ∀ (x : Cond) (a : Word), P (Instr.callCond x a))
    (retCond : ∀ (x0 : Cond), P (Instr.retCond x0))
    (rst : ∀ (t : Fin 8), P (Instr.rst t))
    (push : ∀ (x0 : StackPair), P (Instr.push x0))
    (pop : ∀ (x0 : StackPair), P (Instr.pop x0))
    (shiftReg : ∀ (x0 : ShiftOp) (x1 : Reg), P (Instr.shiftReg x0 x1))
    (shiftAtHl : ∀ (x0 : ShiftOp), P (Instr.shiftAtHl x0))
    (bitReg : ∀ (n : Fin 8) (r : Reg), P (Instr.bitReg n r))
    (bitAtHl : ∀ (n : Fin 8), P (Instr.bitAtHl n))
    (resReg : ∀ (n : Fin 8) (r : Reg), P (Instr.resReg n r))
    (resAtHl : ∀ (n : Fin 8), P (Instr.resAtHl n))
    (setReg : ∀ (n : Fin 8) (r : Reg), P (Instr.setReg n r))
    (setAtHl : ∀ (n : Fin 8), P (Instr.setAtHl n))
    (unused : ∀ (x0 : UnusedOpcode), P (Instr.unused x0))
    (ldAtA16Sp : ∀ (a : Word), P (.ldAtA16Sp a))
    (stop : ∀ (x : Byte), P (.stop x))
    (jrE8 : ∀ (e : Byte), P (.jrE8 e))
    (ldAtHlD8 : ∀ (n : Byte), P (.ldAtHlD8 n))
    (jpA16 : ∀ (a : Word), P (.jpA16 a))
    (prefixCb : ∀ (op2 : Byte), P (.prefixCb op2))
    (callA16 : ∀ (a : Word), P (.callA16 a))
    (ldhAtA8A : ∀ (n : Byte), P (.ldhAtA8A n))
    (addSpE8 : ∀ (e : Byte), P (.addSpE8 e))
    (ldAtA16A : ∀ (a : Word), P (.ldAtA16A a))
    (ldhAAtA8 : ∀ (n : Byte), P (.ldhAAtA8 n))
    (ldHlSpE8 : ∀ (e : Byte), P (.ldHlSpE8 e))
    (ldAAtA16 : ∀ (a : Word), P (.ldAAtA16 a))
    (nop : P .nop)
    (ldAtBcA : P .ldAtBcA)
    (rlca : P .rlca)
    (ldAAtBc : P .ldAAtBc)
    (rrca : P .rrca)
    (ldAtDeA : P .ldAtDeA)
    (rla : P .rla)
    (ldAAtDe : P .ldAAtDe)
    (rra : P .rra)
    (ldAtHlIncA : P .ldAtHlIncA)
    (daa : P .daa)
    (ldAAtHlInc : P .ldAAtHlInc)
    (cpl : P .cpl)
    (ldAtHlDecA : P .ldAtHlDecA)
    (incAtHl : P .incAtHl)
    (decAtHl : P .decAtHl)
    (scf : P .scf)
    (ldAAtHlDec : P .ldAAtHlDec)
    (ccf : P .ccf)
    (halt : P .halt)
    (ret : P .ret)
    (reti : P .reti)
    (ldhAtCA : P .ldhAtCA)
    (jpHl : P .jpHl)
    (ldhAAtC : P .ldhAAtC)
    (di : P .di)
    (ldSpHl : P .ldSpHl)
    (ei : P .ei) :
    ∀ i : Instr, P i := by
  intro i
  cases i with
  | ldBcD16 v => exact ldPairImm .bc v
  | ldBD8 n => exact ldRegImm .b n
  | ldAtA16Sp a => exact ldAtA16Sp a
  | ldCD8 n => exact ldRegImm .c n
  | stop x => exact stop x
  | ldDeD16 v => exact ldPairImm .de v
  | ldDD8 n => exact ldRegImm .d n
  | jrE8 e => exact jrE8 e
  | ldED8 n => exact ldRegImm .e n
  | jrNzE8 e => exact jrCond .nz e
  | ldHlD16 v => exact ldPairImm .hl v
  | ldHD8 n => exact ldRegImm .h n
  | jrZE8 e => exact jrCond .z e
  | ldLD8 n => exact ldRegImm .l n
  | jrNcE8 e => exact jrCond .nc e
  | ldSpD16 v => exact ldPairImm .sp v
  | ldAtHlD8 n => exact ldAtHlD8 n
  | jrCE8 e => exact jrCond .c e
  | ldAD8 n => exact ldRegImm .a n
  | jpNzA16 a => exact jpCond .nz a
  | jpA16 a => exact jpA16 a
  | callNzA16 a => exact callCond .nz a
  | addAD8 n => exact aluImm .add n
  | jpZA16 a => exact jpCond .z a
  | prefixCb op2 => exact prefixCb op2
  | callZA16 a => exact callCond .z a
  | callA16 a => exact callA16 a
  | adcAD8 n => exact aluImm .adc n
  | jpNcA16 a => exact jpCond .nc a
  | callNcA16 a => exact callCond .nc a
  | subD8 n => exact aluImm .sub n
  | jpCA16 a => exact jpCond .c a
  | callCA16 a => exact callCond .c a
  | sbcAD8 n => exact aluImm .sbc n
  | ldhAtA8A n => exact ldhAtA8A n
  | andD8 n => exact aluImm .and n
  | addSpE8 e => exact addSpE8 e
  | ldAtA16A a => exact ldAtA16A a
  | xorD8 n => exact aluImm .xor n
  | ldhAAtA8 n => exact ldhAAtA8 n
  | orD8 n => exact aluImm .or n
  | ldHlSpE8 e => exact ldHlSpE8 e
  | ldAAtA16 a => exact ldAAtA16 a
  | cpD8 n => exact aluImm .cp n
  | nop => exact nop
  | ldAtBcA => exact ldAtBcA
  | incBc => exact incPair .bc
  | incB => exact incReg .b
  | decB => exact decReg .b
  | rlca => exact rlca
  | addHlBc => exact addHlPair .bc
  | ldAAtBc => exact ldAAtBc
  | decBc => exact decPair .bc
  | incC => exact incReg .c
  | decC => exact decReg .c
  | rrca => exact rrca
  | ldAtDeA => exact ldAtDeA
  | incDe => exact incPair .de
  | incD => exact incReg .d
  | decD => exact decReg .d
  | rla => exact rla
  | addHlDe => exact addHlPair .de
  | ldAAtDe => exact ldAAtDe
  | decDe => exact decPair .de
  | incE => exact incReg .e
  | decE => exact decReg .e
  | rra => exact rra
  | ldAtHlIncA => exact ldAtHlIncA
  | incHl => exact incPair .hl
  | incH => exact incReg .h
  | decH => exact decReg .h
  | daa => exact daa
  | addHlHl => exact addHlPair .hl
  | ldAAtHlInc => exact ldAAtHlInc
  | decHl => exact decPair .hl
  | incL => exact incReg .l
  | decL => exact decReg .l
  | cpl => exact cpl
  | ldAtHlDecA => exact ldAtHlDecA
  | incSp => exact incPair .sp
  | incAtHl => exact incAtHl
  | decAtHl => exact decAtHl
  | scf => exact scf
  | addHlSp => exact addHlPair .sp
  | ldAAtHlDec => exact ldAAtHlDec
  | decSp => exact decPair .sp
  | incA => exact incReg .a
  | decA => exact decReg .a
  | ccf => exact ccf
  | ldBB => exact ldRegReg .b .b
  | ldBC => exact ldRegReg .b .c
  | ldBD => exact ldRegReg .b .d
  | ldBE => exact ldRegReg .b .e
  | ldBH => exact ldRegReg .b .h
  | ldBL => exact ldRegReg .b .l
  | ldBAtHl => exact ldRegAtHl .b
  | ldBA => exact ldRegReg .b .a
  | ldCB => exact ldRegReg .c .b
  | ldCC => exact ldRegReg .c .c
  | ldCD => exact ldRegReg .c .d
  | ldCE => exact ldRegReg .c .e
  | ldCH => exact ldRegReg .c .h
  | ldCL => exact ldRegReg .c .l
  | ldCAtHl => exact ldRegAtHl .c
  | ldCA => exact ldRegReg .c .a
  | ldDB => exact ldRegReg .d .b
  | ldDC => exact ldRegReg .d .c
  | ldDD => exact ldRegReg .d .d
  | ldDE => exact ldRegReg .d .e
  | ldDH => exact ldRegReg .d .h
  | ldDL => exact ldRegReg .d .l
  | ldDAtHl => exact ldRegAtHl .d
  | ldDA => exact ldRegReg .d .a
  | ldEB => exact ldRegReg .e .b
  | ldEC => exact ldRegReg .e .c
  | ldED => exact ldRegReg .e .d
  | ldEE => exact ldRegReg .e .e
  | ldEH => exact ldRegReg .e .h
  | ldEL => exact ldRegReg .e .l
  | ldEAtHl => exact ldRegAtHl .e
  | ldEA => exact ldRegReg .e .a
  | ldHB => exact ldRegReg .h .b
  | ldHC => exact ldRegReg .h .c
  | ldHD => exact ldRegReg .h .d
  | ldHE => exact ldRegReg .h .e
  | ldHH => exact ldRegReg .h .h
  | ldHL => exact ldRegReg .h .l
  | ldHAtHl => exact ldRegAtHl .h
  | ldHA => exact ldRegReg .h .a
  | ldLB => exact ldRegReg .l .b
  | ldLC => exact ldRegReg .l .c
  | ldLD => exact ldRegReg .l .d
  | ldLE => exact ldRegReg .l .e
  | ldLH => exact ldRegReg .l .h
  | ldLL => exact ldRegReg .l .l
  | ldLAtHl => exact ldRegAtHl .l
  | ldLA => exact ldRegReg .l .a
  | ldAtHlB => exact ldAtHlReg .b
  | ldAtHlC => exact ldAtHlReg .c
  | ldAtHlD => exact ldAtHlReg .d
  | ldAtHlE => exact ldAtHlReg .e
  | ldAtHlH => exact ldAtHlReg .h
  | ldAtHlL => exact ldAtHlReg .l
  | halt => exact halt
  | ldAtHlA => exact ldAtHlReg .a
  | ldAB => exact ldRegReg .a .b
  | ldAC => exact ldRegReg .a .c
  | ldAD => exact ldRegReg .a .d
  | ldAE => exact ldRegReg .a .e
  | ldAH => exact ldRegReg .a .h
  | ldAL => exact ldRegReg .a .l
  | ldAAtHl => exact ldRegAtHl .a
  | ldAA => exact ldRegReg .a .a
  | addAB => exact aluReg .add .b
  | addAC => exact aluReg .add .c
  | addAD => exact aluReg .add .d
  | addAE => exact aluReg .add .e
  | addAH => exact aluReg .add .h
  | addAL => exact aluReg .add .l
  | addAAtHl => exact aluAtHl .add
  | addAA => exact aluReg .add .a
  | adcAB => exact aluReg .adc .b
  | adcAC => exact aluReg .adc .c
  | adcAD => exact aluReg .adc .d
  | adcAE => exact aluReg .adc .e
  | adcAH => exact aluReg .adc .h
  | adcAL => exact aluReg .adc .l
  | adcAAtHl => exact aluAtHl .adc
  | adcAA => exact aluReg .adc .a
  | subB => exact aluReg .sub .b
  | subC => exact aluReg .sub .c
  | subD => exact aluReg .sub .d
  | subE => exact aluReg .sub .e
  | subH => exact aluReg .sub .h
  | subL => exact aluReg .sub .l
  | subAtHl => exact aluAtHl .sub
  | subA => exact aluReg .sub .a
  | sbcAB => exact aluReg .sbc .b
  | sbcAC => exact aluReg .sbc .c
  | sbcAD => exact aluReg .sbc .d
  | sbcAE => exact aluReg .sbc .e
  | sbcAH => exact aluReg .sbc .h
  | sbcAL => exact aluReg .sbc .l
  | sbcAAtHl => exact aluAtHl .sbc
  | sbcAA => exact aluReg .sbc .a
  | andB => exact aluReg .and .b
  | andC => exact aluReg .and .c
  | andD => exact aluReg .and .d
  | andE => exact aluReg .and .e
  | andH => exact aluReg .and .h
  | andL => exact aluReg .and .l
  | andAtHl => exact aluAtHl .and
  | andA => exact aluReg .and .a
  | xorB => exact aluReg .xor .b
  | xorC => exact aluReg .xor .c
  | xorD => exact aluReg .xor .d
  | xorE => exact aluReg .xor .e
  | xorH => exact aluReg .xor .h
  | xorL => exact aluReg .xor .l
  | xorAtHl => exact aluAtHl .xor
  | xorA => exact aluReg .xor .a
  | orB => exact aluReg .or .b
  | orC => exact aluReg .or .c
  | orD => exact aluReg .or .d
  | orE => exact aluReg .or .e
  | orH => exact aluReg .or .h
  | orL => exact aluReg .or .l
  | orAtHl => exact aluAtHl .or
  | orA => exact aluReg .or .a
  | cpB => exact aluReg .cp .b
  | cpC => exact aluReg .cp .c
  | cpD => exact aluReg .cp .d
  | cpE => exact aluReg .cp .e
  | cpH => exact aluReg .cp .h
  | cpL => exact aluReg .cp .l
  | cpAtHl => exact aluAtHl .cp
  | cpA => exact aluReg .cp .a
  | retNz => exact retCond .nz
  | popBc => exact pop .bc
  | pushBc => exact push .bc
  | rst00 => exact rst 0
  | retZ => exact retCond .z
  | ret => exact ret
  | rst08 => exact rst 1
  | retNc => exact retCond .nc
  | popDe => exact pop .de
  | illegalD3 => exact unused .xD3
  | pushDe => exact push .de
  | rst10 => exact rst 2
  | retC => exact retCond .c
  | reti => exact reti
  | illegalDB => exact unused .xDB
  | illegalDD => exact unused .xDD
  | rst18 => exact rst 3
  | popHl => exact pop .hl
  | ldhAtCA => exact ldhAtCA
  | illegalE3 => exact unused .xE3
  | illegalE4 => exact unused .xE4
  | pushHl => exact push .hl
  | rst20 => exact rst 4
  | jpHl => exact jpHl
  | illegalEB => exact unused .xEB
  | illegalEC => exact unused .xEC
  | illegalED => exact unused .xED
  | rst28 => exact rst 5
  | popAf => exact pop .af
  | ldhAAtC => exact ldhAAtC
  | di => exact di
  | illegalF4 => exact unused .xF4
  | pushAf => exact push .af
  | rst30 => exact rst 6
  | ldSpHl => exact ldSpHl
  | ei => exact ei
  | illegalFC => exact unused .xFC
  | illegalFD => exact unused .xFD
  | rst38 => exact rst 7
  | rlcB => exact shiftReg .rlc .b
  | rlcC => exact shiftReg .rlc .c
  | rlcD => exact shiftReg .rlc .d
  | rlcE => exact shiftReg .rlc .e
  | rlcH => exact shiftReg .rlc .h
  | rlcL => exact shiftReg .rlc .l
  | rlcAtHl => exact shiftAtHl .rlc
  | rlcA => exact shiftReg .rlc .a
  | rrcB => exact shiftReg .rrc .b
  | rrcC => exact shiftReg .rrc .c
  | rrcD => exact shiftReg .rrc .d
  | rrcE => exact shiftReg .rrc .e
  | rrcH => exact shiftReg .rrc .h
  | rrcL => exact shiftReg .rrc .l
  | rrcAtHl => exact shiftAtHl .rrc
  | rrcA => exact shiftReg .rrc .a
  | rlB => exact shiftReg .rl .b
  | rlC => exact shiftReg .rl .c
  | rlD => exact shiftReg .rl .d
  | rlE => exact shiftReg .rl .e
  | rlH => exact shiftReg .rl .h
  | rlL => exact shiftReg .rl .l
  | rlAtHl => exact shiftAtHl .rl
  | rlA => exact shiftReg .rl .a
  | rrB => exact shiftReg .rr .b
  | rrC => exact shiftReg .rr .c
  | rrD => exact shiftReg .rr .d
  | rrE => exact shiftReg .rr .e
  | rrH => exact shiftReg .rr .h
  | rrL => exact shiftReg .rr .l
  | rrAtHl => exact shiftAtHl .rr
  | rrA => exact shiftReg .rr .a
  | slaB => exact shiftReg .sla .b
  | slaC => exact shiftReg .sla .c
  | slaD => exact shiftReg .sla .d
  | slaE => exact shiftReg .sla .e
  | slaH => exact shiftReg .sla .h
  | slaL => exact shiftReg .sla .l
  | slaAtHl => exact shiftAtHl .sla
  | slaA => exact shiftReg .sla .a
  | sraB => exact shiftReg .sra .b
  | sraC => exact shiftReg .sra .c
  | sraD => exact shiftReg .sra .d
  | sraE => exact shiftReg .sra .e
  | sraH => exact shiftReg .sra .h
  | sraL => exact shiftReg .sra .l
  | sraAtHl => exact shiftAtHl .sra
  | sraA => exact shiftReg .sra .a
  | swapB => exact shiftReg .swap .b
  | swapC => exact shiftReg .swap .c
  | swapD => exact shiftReg .swap .d
  | swapE => exact shiftReg .swap .e
  | swapH => exact shiftReg .swap .h
  | swapL => exact shiftReg .swap .l
  | swapAtHl => exact shiftAtHl .swap
  | swapA => exact shiftReg .swap .a
  | srlB => exact shiftReg .srl .b
  | srlC => exact shiftReg .srl .c
  | srlD => exact shiftReg .srl .d
  | srlE => exact shiftReg .srl .e
  | srlH => exact shiftReg .srl .h
  | srlL => exact shiftReg .srl .l
  | srlAtHl => exact shiftAtHl .srl
  | srlA => exact shiftReg .srl .a
  | bit0B => exact bitReg 0 .b
  | bit0C => exact bitReg 0 .c
  | bit0D => exact bitReg 0 .d
  | bit0E => exact bitReg 0 .e
  | bit0H => exact bitReg 0 .h
  | bit0L => exact bitReg 0 .l
  | bit0AtHl => exact bitAtHl 0
  | bit0A => exact bitReg 0 .a
  | bit1B => exact bitReg 1 .b
  | bit1C => exact bitReg 1 .c
  | bit1D => exact bitReg 1 .d
  | bit1E => exact bitReg 1 .e
  | bit1H => exact bitReg 1 .h
  | bit1L => exact bitReg 1 .l
  | bit1AtHl => exact bitAtHl 1
  | bit1A => exact bitReg 1 .a
  | bit2B => exact bitReg 2 .b
  | bit2C => exact bitReg 2 .c
  | bit2D => exact bitReg 2 .d
  | bit2E => exact bitReg 2 .e
  | bit2H => exact bitReg 2 .h
  | bit2L => exact bitReg 2 .l
  | bit2AtHl => exact bitAtHl 2
  | bit2A => exact bitReg 2 .a
  | bit3B => exact bitReg 3 .b
  | bit3C => exact bitReg 3 .c
  | bit3D => exact bitReg 3 .d
  | bit3E => exact bitReg 3 .e
  | bit3H => exact bitReg 3 .h
  | bit3L => exact bitReg 3 .l
  | bit3AtHl => exact bitAtHl 3
  | bit3A => exact bitReg 3 .a
  | bit4B => exact bitReg 4 .b
  | bit4C => exact bitReg 4 .c
  | bit4D => exact bitReg 4 .d
  | bit4E => exact bitReg 4 .e
  | bit4H => exact bitReg 4 .h
  | bit4L => exact bitReg 4 .l
  | bit4AtHl => exact bitAtHl 4
  | bit4A => exact bitReg 4 .a
  | bit5B => exact bitReg 5 .b
  | bit5C => exact bitReg 5 .c
  | bit5D => exact bitReg 5 .d
  | bit5E => exact bitReg 5 .e
  | bit5H => exact bitReg 5 .h
  | bit5L => exact bitReg 5 .l
  | bit5AtHl => exact bitAtHl 5
  | bit5A => exact bitReg 5 .a
  | bit6B => exact bitReg 6 .b
  | bit6C => exact bitReg 6 .c
  | bit6D => exact bitReg 6 .d
  | bit6E => exact bitReg 6 .e
  | bit6H => exact bitReg 6 .h
  | bit6L => exact bitReg 6 .l
  | bit6AtHl => exact bitAtHl 6
  | bit6A => exact bitReg 6 .a
  | bit7B => exact bitReg 7 .b
  | bit7C => exact bitReg 7 .c
  | bit7D => exact bitReg 7 .d
  | bit7E => exact bitReg 7 .e
  | bit7H => exact bitReg 7 .h
  | bit7L => exact bitReg 7 .l
  | bit7AtHl => exact bitAtHl 7
  | bit7A => exact bitReg 7 .a
  | res0B => exact resReg 0 .b
  | res0C => exact resReg 0 .c
  | res0D => exact resReg 0 .d
  | res0E => exact resReg 0 .e
  | res0H => exact resReg 0 .h
  | res0L => exact resReg 0 .l
  | res0AtHl => exact resAtHl 0
  | res0A => exact resReg 0 .a
  | res1B => exact resReg 1 .b
  | res1C => exact resReg 1 .c
  | res1D => exact resReg 1 .d
  | res1E => exact resReg 1 .e
  | res1H => exact resReg 1 .h
  | res1L => exact resReg 1 .l
  | res1AtHl => exact resAtHl 1
  | res1A => exact resReg 1 .a
  | res2B => exact resReg 2 .b
  | res2C => exact resReg 2 .c
  | res2D => exact resReg 2 .d
  | res2E => exact resReg 2 .e
  | res2H => exact resReg 2 .h
  | res2L => exact resReg 2 .l
  | res2AtHl => exact resAtHl 2
  | res2A => exact resReg 2 .a
  | res3B => exact resReg 3 .b
  | res3C => exact resReg 3 .c
  | res3D => exact resReg 3 .d
  | res3E => exact resReg 3 .e
  | res3H => exact resReg 3 .h
  | res3L => exact resReg 3 .l
  | res3AtHl => exact resAtHl 3
  | res3A => exact resReg 3 .a
  | res4B => exact resReg 4 .b
  | res4C => exact resReg 4 .c
  | res4D => exact resReg 4 .d
  | res4E => exact resReg 4 .e
  | res4H => exact resReg 4 .h
  | res4L => exact resReg 4 .l
  | res4AtHl => exact resAtHl 4
  | res4A => exact resReg 4 .a
  | res5B => exact resReg 5 .b
  | res5C => exact resReg 5 .c
  | res5D => exact resReg 5 .d
  | res5E => exact resReg 5 .e
  | res5H => exact resReg 5 .h
  | res5L => exact resReg 5 .l
  | res5AtHl => exact resAtHl 5
  | res5A => exact resReg 5 .a
  | res6B => exact resReg 6 .b
  | res6C => exact resReg 6 .c
  | res6D => exact resReg 6 .d
  | res6E => exact resReg 6 .e
  | res6H => exact resReg 6 .h
  | res6L => exact resReg 6 .l
  | res6AtHl => exact resAtHl 6
  | res6A => exact resReg 6 .a
  | res7B => exact resReg 7 .b
  | res7C => exact resReg 7 .c
  | res7D => exact resReg 7 .d
  | res7E => exact resReg 7 .e
  | res7H => exact resReg 7 .h
  | res7L => exact resReg 7 .l
  | res7AtHl => exact resAtHl 7
  | res7A => exact resReg 7 .a
  | set0B => exact setReg 0 .b
  | set0C => exact setReg 0 .c
  | set0D => exact setReg 0 .d
  | set0E => exact setReg 0 .e
  | set0H => exact setReg 0 .h
  | set0L => exact setReg 0 .l
  | set0AtHl => exact setAtHl 0
  | set0A => exact setReg 0 .a
  | set1B => exact setReg 1 .b
  | set1C => exact setReg 1 .c
  | set1D => exact setReg 1 .d
  | set1E => exact setReg 1 .e
  | set1H => exact setReg 1 .h
  | set1L => exact setReg 1 .l
  | set1AtHl => exact setAtHl 1
  | set1A => exact setReg 1 .a
  | set2B => exact setReg 2 .b
  | set2C => exact setReg 2 .c
  | set2D => exact setReg 2 .d
  | set2E => exact setReg 2 .e
  | set2H => exact setReg 2 .h
  | set2L => exact setReg 2 .l
  | set2AtHl => exact setAtHl 2
  | set2A => exact setReg 2 .a
  | set3B => exact setReg 3 .b
  | set3C => exact setReg 3 .c
  | set3D => exact setReg 3 .d
  | set3E => exact setReg 3 .e
  | set3H => exact setReg 3 .h
  | set3L => exact setReg 3 .l
  | set3AtHl => exact setAtHl 3
  | set3A => exact setReg 3 .a
  | set4B => exact setReg 4 .b
  | set4C => exact setReg 4 .c
  | set4D => exact setReg 4 .d
  | set4E => exact setReg 4 .e
  | set4H => exact setReg 4 .h
  | set4L => exact setReg 4 .l
  | set4AtHl => exact setAtHl 4
  | set4A => exact setReg 4 .a
  | set5B => exact setReg 5 .b
  | set5C => exact setReg 5 .c
  | set5D => exact setReg 5 .d
  | set5E => exact setReg 5 .e
  | set5H => exact setReg 5 .h
  | set5L => exact setReg 5 .l
  | set5AtHl => exact setAtHl 5
  | set5A => exact setReg 5 .a
  | set6B => exact setReg 6 .b
  | set6C => exact setReg 6 .c
  | set6D => exact setReg 6 .d
  | set6E => exact setReg 6 .e
  | set6H => exact setReg 6 .h
  | set6L => exact setReg 6 .l
  | set6AtHl => exact setAtHl 6
  | set6A => exact setReg 6 .a
  | set7B => exact setReg 7 .b
  | set7C => exact setReg 7 .c
  | set7D => exact setReg 7 .d
  | set7E => exact setReg 7 .e
  | set7H => exact setReg 7 .h
  | set7L => exact setReg 7 .l
  | set7AtHl => exact setAtHl 7
  | set7A => exact setReg 7 .a

end Sys2Proof
end

