-- ==== Sys2Proof/Laws/Exec.lean ====
section
/-! SUPPORT. What `exec` runs for each form: the shared operation with the row's operands. A later proof cites these lemmas and
never unfolds the dispatch. -/

namespace Sys2Proof.Machine

variable (s : State)

@[simp] theorem exec_ldRegReg (x0 : Reg) (x1 : Reg) : exec (Instr.ldRegReg x0 x1) s = loadReg x0 x1 s := by
  cases x0 <;> cases x1 <;> rfl

@[simp] theorem exec_ldRegImm (x : Reg) (n : Byte) : exec (Instr.ldRegImm x n) s = loadImm x n s := by
  cases x <;> rfl

@[simp] theorem exec_ldRegAtHl (x0 : Reg) : exec (Instr.ldRegAtHl x0) s = loadMem 8 x0 s.hl s := by
  cases x0 <;> rfl

@[simp] theorem exec_ldAtHlReg (x0 : Reg) : exec (Instr.ldAtHlReg x0) s = storeMem 8 s.hl (s.reg x0) s := by
  cases x0 <;> rfl

@[simp] theorem exec_ldPairImm (x : Pair) (v : Word) : exec (Instr.ldPairImm x v) s = loadPair x v s := by
  cases x <;> rfl

@[simp] theorem exec_aluReg (x0 : AluOp) (x1 : Reg) : exec (Instr.aluReg x0 x1) s = aluReg x0 x1 s := by
  cases x0 <;> cases x1 <;> rfl

@[simp] theorem exec_aluAtHl (x0 : AluOp) : exec (Instr.aluAtHl x0) s = aluAtHl x0 s := by
  cases x0 <;> rfl

@[simp] theorem exec_aluImm (x : AluOp) (n : Byte) : exec (Instr.aluImm x n) s = aluImm x n s := by
  cases x <;> rfl

@[simp] theorem exec_incReg (x0 : Reg) : exec (Instr.incReg x0) s = incReg x0 s := by
  cases x0 <;> rfl

@[simp] theorem exec_decReg (x0 : Reg) : exec (Instr.decReg x0) s = decReg x0 s := by
  cases x0 <;> rfl

@[simp] theorem exec_addHlPair (x0 : Pair) : exec (Instr.addHlPair x0) s = addHl x0 s := by
  cases x0 <;> rfl

@[simp] theorem exec_incPair (x0 : Pair) : exec (Instr.incPair x0) s = incPair x0 s := by
  cases x0 <;> rfl

@[simp] theorem exec_decPair (x0 : Pair) : exec (Instr.decPair x0) s = decPair x0 s := by
  cases x0 <;> rfl

@[simp] theorem exec_jpCond (x : Cond) (a : Word) : exec (Instr.jpCond x a) s = jumpIf x 16 12 a s := by
  cases x <;> rfl

@[simp] theorem exec_jrCond (x : Cond) (e : Byte) : exec (Instr.jrCond x e) s = jumpIf x 12 8 (s.relativeTarget e) s := by
  cases x <;> rfl

@[simp] theorem exec_callCond (x : Cond) (a : Word) : exec (Instr.callCond x a) s = callIf x a s := by
  cases x <;> rfl

@[simp] theorem exec_retCond (x0 : Cond) : exec (Instr.retCond x0) s = returnIf x0 s := by
  cases x0 <;> rfl

@[simp] theorem exec_rst (t : Fin 8) : exec (Instr.rst t) s = call 16 (restartTarget t) s := by
  fin_cases t <;> rfl

@[simp] theorem exec_push (x0 : StackPair) : exec (Instr.push x0) s = pushPair x0 s := by
  cases x0 <;> rfl

@[simp] theorem exec_pop (x0 : StackPair) : exec (Instr.pop x0) s = popPair x0 s := by
  cases x0 <;> rfl

@[simp] theorem exec_shiftReg (x0 : ShiftOp) (x1 : Reg) : exec (Instr.shiftReg x0 x1) s = shiftReg x0 x1 s := by
  cases x0 <;> cases x1 <;> rfl

@[simp] theorem exec_shiftAtHl (x0 : ShiftOp) : exec (Instr.shiftAtHl x0) s = shiftAtHl x0 s := by
  cases x0 <;> rfl

@[simp] theorem exec_bitReg (n : Fin 8) (r : Reg) : exec (Instr.bitReg n r) s = bitTestReg n r s := by
  fin_cases n <;> cases r <;> rfl

@[simp] theorem exec_bitAtHl (n : Fin 8) : exec (Instr.bitAtHl n) s = bitTestAtHl n s := by
  fin_cases n <;> rfl

@[simp] theorem exec_resReg (n : Fin 8) (r : Reg) : exec (Instr.resReg n r) s = bitResetReg n r s := by
  fin_cases n <;> cases r <;> rfl

@[simp] theorem exec_resAtHl (n : Fin 8) : exec (Instr.resAtHl n) s = bitResetAtHl n s := by
  fin_cases n <;> rfl

@[simp] theorem exec_setReg (n : Fin 8) (r : Reg) : exec (Instr.setReg n r) s = bitSetReg n r s := by
  fin_cases n <;> cases r <;> rfl

@[simp] theorem exec_setAtHl (n : Fin 8) : exec (Instr.setAtHl n) s = bitSetAtHl n s := by
  fin_cases n <;> rfl

@[simp] theorem exec_unused (x0 : UnusedOpcode) : exec (Instr.unused x0) s = unusedOpcode x0 s := by
  cases x0 <;> rfl

@[simp] theorem exec_ldAtA16Sp (a : Word) : exec (.ldAtA16Sp a) s = storeSp a s := rfl

@[simp] theorem exec_stop (x : Byte) : exec (.stop x) s = finish 4 (s.setStopped true) := rfl

@[simp] theorem exec_jrE8 (e : Byte) : exec (.jrE8 e) s = jump 12 (s.relativeTarget e) s := rfl

@[simp] theorem exec_ldAtHlD8 (n : Byte) : exec (.ldAtHlD8 n) s = storeMem 12 s.hl n s := rfl

@[simp] theorem exec_jpA16 (a : Word) : exec (.jpA16 a) s = jump 16 a s := rfl

@[simp] theorem exec_prefixCb (op2 : Byte) : exec (.prefixCb op2) s = execExtended op2 s := rfl

@[simp] theorem exec_callA16 (a : Word) : exec (.callA16 a) s = call 24 a s := rfl

@[simp] theorem exec_ldhAtA8A (n : Byte) : exec (.ldhAtA8A n) s = storeMem 12 (highPage n) (s.reg .a) s := rfl

@[simp] theorem exec_addSpE8 (e : Byte) : exec (.addSpE8 e) s = addSp e s := rfl

@[simp] theorem exec_ldAtA16A (a : Word) : exec (.ldAtA16A a) s = storeMem 16 a (s.reg .a) s := rfl

@[simp] theorem exec_ldhAAtA8 (n : Byte) : exec (.ldhAAtA8 n) s = loadMem 12 .a (highPage n) s := rfl

@[simp] theorem exec_ldHlSpE8 (e : Byte) : exec (.ldHlSpE8 e) s = loadHlSpOffset e s := rfl

@[simp] theorem exec_ldAAtA16 (a : Word) : exec (.ldAAtA16 a) s = loadMem 16 .a a s := rfl

@[simp] theorem exec_nop : exec .nop s = finish 4 s := rfl

@[simp] theorem exec_ldAtBcA : exec .ldAtBcA s = storeMem 8 s.bc (s.reg .a) s := rfl

@[simp] theorem exec_rlca : exec .rlca s = rotateA .rlc s := rfl

@[simp] theorem exec_ldAAtBc : exec .ldAAtBc s = loadMem 8 .a s.bc s := rfl

@[simp] theorem exec_rrca : exec .rrca s = rotateA .rrc s := rfl

@[simp] theorem exec_ldAtDeA : exec .ldAtDeA s = storeMem 8 s.de (s.reg .a) s := rfl

@[simp] theorem exec_rla : exec .rla s = rotateA .rl s := rfl

@[simp] theorem exec_ldAAtDe : exec .ldAAtDe s = loadMem 8 .a s.de s := rfl

@[simp] theorem exec_rra : exec .rra s = rotateA .rr s := rfl

@[simp] theorem exec_ldAtHlIncA : exec .ldAtHlIncA s = storeAAtHlThen 1#16 s := rfl

@[simp] theorem exec_daa : exec .daa s = adjustDecimal s := rfl

@[simp] theorem exec_ldAAtHlInc : exec .ldAAtHlInc s = loadAAtHlThen 1#16 s := rfl

@[simp] theorem exec_cpl : exec .cpl s = complementA s := rfl

@[simp] theorem exec_ldAtHlDecA : exec .ldAtHlDecA s = storeAAtHlThen (-1#16) s := rfl

@[simp] theorem exec_incAtHl : exec .incAtHl s = incAtHl s := rfl

@[simp] theorem exec_decAtHl : exec .decAtHl s = decAtHl s := rfl

@[simp] theorem exec_scf : exec .scf s = setCarry s := rfl

@[simp] theorem exec_ldAAtHlDec : exec .ldAAtHlDec s = loadAAtHlThen (-1#16) s := rfl

@[simp] theorem exec_ccf : exec .ccf s = complementCarry s := rfl

@[simp] theorem exec_halt : exec .halt s = enterHalt s := rfl

@[simp] theorem exec_ret : exec .ret s = returnPop 16 s := rfl

@[simp] theorem exec_reti : exec .reti s = finish 16 s.returnFromInterrupt := rfl

@[simp] theorem exec_ldhAtCA : exec .ldhAtCA s = storeMem 8 (highPage s.c) (s.reg .a) s := rfl

@[simp] theorem exec_jpHl : exec .jpHl s = jump 4 s.hl s := rfl

@[simp] theorem exec_ldhAAtC : exec .ldhAAtC s = loadMem 8 .a (highPage s.c) s := rfl

@[simp] theorem exec_di : exec .di s = finish 4 ((s.setIme false).setEiPending false) := rfl

@[simp] theorem exec_ldSpHl : exec .ldSpHl s = loadSpHl s := rfl

@[simp] theorem exec_ei : exec .ei s = finish 4 (s.setEiPending true) := rfl

/-! ## The operations that choose -/

/-- The extended opcode's row is its decoding's row (R83, R286). -/
theorem execExtended_eq (op2 : Byte) : execExtended op2 s = exec (decodeExtended op2) s := by
  unfold execExtended decodeExtended
  have hx : fieldX op2 = 0 ∨ fieldX op2 = 1 ∨ fieldX op2 = 2 ∨ fieldX op2 = 3 := by
    have := op2.isLt
    unfold fieldX
    omega
  rcases hx with hx | hx | hx | hx <;> rw [hx] <;>
    cases operandOfCode (fieldZ op2) <;>
    simp [Instr.shift8, Instr.bit8, Instr.res8, Instr.set8]

/-- Every extended opcode is one of eight forms (R96). -/
theorem decodeExtended_cases (op2 : Byte) :
    (∃ op r, decodeExtended op2 = Instr.shiftReg op r) ∨ (∃ op, decodeExtended op2 = Instr.shiftAtHl op) ∨
    (∃ n r, decodeExtended op2 = Instr.bitReg n r) ∨ (∃ n, decodeExtended op2 = Instr.bitAtHl n) ∨
    (∃ n r, decodeExtended op2 = Instr.resReg n r) ∨ (∃ n, decodeExtended op2 = Instr.resAtHl n) ∨
    (∃ n r, decodeExtended op2 = Instr.setReg n r) ∨ (∃ n, decodeExtended op2 = Instr.setAtHl n) := by
  unfold decodeExtended
  split <;> cases operandOfCode (fieldZ op2) <;> simp only [Instr.shift8, Instr.bit8, Instr.res8, Instr.set8]
  · exact .inl ⟨_, _, rfl⟩
  · exact .inr (.inl ⟨_, rfl⟩)
  · exact .inr (.inr (.inl ⟨_, _, rfl⟩))
  · exact .inr (.inr (.inr (.inl ⟨_, rfl⟩)))
  · exact .inr (.inr (.inr (.inr (.inl ⟨_, _, rfl⟩))))
  · exact .inr (.inr (.inr (.inr (.inr (.inl ⟨_, rfl⟩)))))
  · exact .inr (.inr (.inr (.inr (.inr (.inr (.inl ⟨_, _, rfl⟩))))))
  · exact .inr (.inr (.inr (.inr (.inr (.inr (.inr ⟨_, rfl⟩))))))

theorem jumpIf_eq (cc : Cond) (k k' : Nat) (a : Word) :
    jumpIf cc k k' a s = finish (if s.cond cc then k else k') (s.setPc (if s.cond cc then a else s.pc)) := by
  unfold jumpIf jump
  split <;> rfl

theorem enterHalt_eq : enterHalt s = finish 4 (if s.irqLines = 0#5 then s.setHalted true
    else if s.ime then s else s.setHaltBug true) := by
  unfold enterHalt
  by_cases h : s.irqLines = 0#5
  · simp [h]
  · simp only [ne_eq, h, not_false_eq_true, if_true, if_false]
    split <;> rfl

theorem unusedOpcode_eq (op : UnusedOpcode) : unusedOpcode op s = finish 4 (match s.cfg.illegalOpcodeMode with
    | .nop => s
    | .fatal => s.setFault (.unimplementedOpcode op.byte s.opcodeAddr)
    | .lockup => s.setLocked true) := by
  unfold unusedOpcode
  split <;> simp [*]

end Sys2Proof.Machine
end

