-- ==== Sys2Proof/Laws/State.lean ====
section
/-! SUPPORT. What each update of the state leaves alone, one lemma a field, and what it makes of the field it writes; so that no
proof unfolds a record update. -/

namespace Sys2Proof.Machine

variable (s : State)

/-! ### setReg -/

@[simp] theorem State.setReg_f (r : Reg) (v : Byte) : (s.setReg r v).f = s.f := by cases r <;> rfl
@[simp] theorem State.setReg_sp (r : Reg) (v : Byte) : (s.setReg r v).sp = s.sp := by cases r <;> rfl
@[simp] theorem State.setReg_pc (r : Reg) (v : Byte) : (s.setReg r v).pc = s.pc := by cases r <;> rfl
@[simp] theorem State.setReg_cr (r : Reg) (v : Byte) : (s.setReg r v).cr = s.cr := by cases r <;> rfl
@[simp] theorem State.setReg_ime (r : Reg) (v : Byte) : (s.setReg r v).ime = s.ime := by cases r <;> rfl
@[simp] theorem State.setReg_eiPending (r : Reg) (v : Byte) : (s.setReg r v).eiPending = s.eiPending := by cases r <;> rfl
@[simp] theorem State.setReg_halted (r : Reg) (v : Byte) : (s.setReg r v).halted = s.halted := by cases r <;> rfl
@[simp] theorem State.setReg_stopped (r : Reg) (v : Byte) : (s.setReg r v).stopped = s.stopped := by cases r <;> rfl
@[simp] theorem State.setReg_haltBug (r : Reg) (v : Byte) : (s.setReg r v).haltBug = s.haltBug := by cases r <;> rfl
@[simp] theorem State.setReg_locked (r : Reg) (v : Byte) : (s.setReg r v).locked = s.locked := by cases r <;> rfl
@[simp] theorem State.setReg_fault (r : Reg) (v : Byte) : (s.setReg r v).fault = s.fault := by cases r <;> rfl
@[simp] theorem State.setReg_mem (r : Reg) (v : Byte) : (s.setReg r v).mem = s.mem := by cases r <;> rfl
@[simp] theorem State.setReg_regions (r : Reg) (v : Byte) : (s.setReg r v).regions = s.regions := by cases r <;> rfl
@[simp] theorem State.setReg_answers (r : Reg) (v : Byte) : (s.setReg r v).answers = s.answers := by cases r <;> rfl
@[simp] theorem State.setReg_cfg (r : Reg) (v : Byte) : (s.setReg r v).cfg = s.cfg := by cases r <;> rfl
@[simp] theorem State.setReg_irqReq (r : Reg) (v : Byte) : (s.setReg r v).irqReq = s.irqReq := by cases r <;> rfl
@[simp] theorem State.setReg_stopWake (r : Reg) (v : Byte) : (s.setReg r v).stopWake = s.stopWake := by cases r <;> rfl
@[simp] theorem State.setReg_inputs (r : Reg) (v : Byte) : (s.setReg r v).inputs = s.inputs := by cases r <;> rfl
@[simp] theorem State.setReg_trace (r : Reg) (v : Byte) : (s.setReg r v).trace = s.trace := by cases r <;> rfl
@[simp] theorem State.setReg_opcodeAddr (r : Reg) (v : Byte) : (s.setReg r v).opcodeAddr = s.opcodeAddr := by cases r <;> rfl

/-! ### setF -/

@[simp] theorem State.setF_a (v : Byte) : (s.setF v).a = s.a := rfl
@[simp] theorem State.setF_b (v : Byte) : (s.setF v).b = s.b := rfl
@[simp] theorem State.setF_c (v : Byte) : (s.setF v).c = s.c := rfl
@[simp] theorem State.setF_d (v : Byte) : (s.setF v).d = s.d := rfl
@[simp] theorem State.setF_e (v : Byte) : (s.setF v).e = s.e := rfl
@[simp] theorem State.setF_h (v : Byte) : (s.setF v).h = s.h := rfl
@[simp] theorem State.setF_l (v : Byte) : (s.setF v).l = s.l := rfl
@[simp] theorem State.setF_sp (v : Byte) : (s.setF v).sp = s.sp := rfl
@[simp] theorem State.setF_pc (v : Byte) : (s.setF v).pc = s.pc := rfl
@[simp] theorem State.setF_cr (v : Byte) : (s.setF v).cr = s.cr := rfl
@[simp] theorem State.setF_ime (v : Byte) : (s.setF v).ime = s.ime := rfl
@[simp] theorem State.setF_eiPending (v : Byte) : (s.setF v).eiPending = s.eiPending := rfl
@[simp] theorem State.setF_halted (v : Byte) : (s.setF v).halted = s.halted := rfl
@[simp] theorem State.setF_stopped (v : Byte) : (s.setF v).stopped = s.stopped := rfl
@[simp] theorem State.setF_haltBug (v : Byte) : (s.setF v).haltBug = s.haltBug := rfl
@[simp] theorem State.setF_locked (v : Byte) : (s.setF v).locked = s.locked := rfl
@[simp] theorem State.setF_fault (v : Byte) : (s.setF v).fault = s.fault := rfl
@[simp] theorem State.setF_mem (v : Byte) : (s.setF v).mem = s.mem := rfl
@[simp] theorem State.setF_regions (v : Byte) : (s.setF v).regions = s.regions := rfl
@[simp] theorem State.setF_answers (v : Byte) : (s.setF v).answers = s.answers := rfl
@[simp] theorem State.setF_cfg (v : Byte) : (s.setF v).cfg = s.cfg := rfl
@[simp] theorem State.setF_irqReq (v : Byte) : (s.setF v).irqReq = s.irqReq := rfl
@[simp] theorem State.setF_stopWake (v : Byte) : (s.setF v).stopWake = s.stopWake := rfl
@[simp] theorem State.setF_inputs (v : Byte) : (s.setF v).inputs = s.inputs := rfl
@[simp] theorem State.setF_trace (v : Byte) : (s.setF v).trace = s.trace := rfl
@[simp] theorem State.setF_opcodeAddr (v : Byte) : (s.setF v).opcodeAddr = s.opcodeAddr := rfl

/-! ### setFlags -/

@[simp] theorem State.setFlags_a (fl : Flags) : (s.setFlags fl).a = s.a := rfl
@[simp] theorem State.setFlags_b (fl : Flags) : (s.setFlags fl).b = s.b := rfl
@[simp] theorem State.setFlags_c (fl : Flags) : (s.setFlags fl).c = s.c := rfl
@[simp] theorem State.setFlags_d (fl : Flags) : (s.setFlags fl).d = s.d := rfl
@[simp] theorem State.setFlags_e (fl : Flags) : (s.setFlags fl).e = s.e := rfl
@[simp] theorem State.setFlags_h (fl : Flags) : (s.setFlags fl).h = s.h := rfl
@[simp] theorem State.setFlags_l (fl : Flags) : (s.setFlags fl).l = s.l := rfl
@[simp] theorem State.setFlags_sp (fl : Flags) : (s.setFlags fl).sp = s.sp := rfl
@[simp] theorem State.setFlags_pc (fl : Flags) : (s.setFlags fl).pc = s.pc := rfl
@[simp] theorem State.setFlags_cr (fl : Flags) : (s.setFlags fl).cr = s.cr := rfl
@[simp] theorem State.setFlags_ime (fl : Flags) : (s.setFlags fl).ime = s.ime := rfl
@[simp] theorem State.setFlags_eiPending (fl : Flags) : (s.setFlags fl).eiPending = s.eiPending := rfl
@[simp] theorem State.setFlags_halted (fl : Flags) : (s.setFlags fl).halted = s.halted := rfl
@[simp] theorem State.setFlags_stopped (fl : Flags) : (s.setFlags fl).stopped = s.stopped := rfl
@[simp] theorem State.setFlags_haltBug (fl : Flags) : (s.setFlags fl).haltBug = s.haltBug := rfl
@[simp] theorem State.setFlags_locked (fl : Flags) : (s.setFlags fl).locked = s.locked := rfl
@[simp] theorem State.setFlags_fault (fl : Flags) : (s.setFlags fl).fault = s.fault := rfl
@[simp] theorem State.setFlags_mem (fl : Flags) : (s.setFlags fl).mem = s.mem := rfl
@[simp] theorem State.setFlags_regions (fl : Flags) : (s.setFlags fl).regions = s.regions := rfl
@[simp] theorem State.setFlags_answers (fl : Flags) : (s.setFlags fl).answers = s.answers := rfl
@[simp] theorem State.setFlags_cfg (fl : Flags) : (s.setFlags fl).cfg = s.cfg := rfl
@[simp] theorem State.setFlags_irqReq (fl : Flags) : (s.setFlags fl).irqReq = s.irqReq := rfl
@[simp] theorem State.setFlags_stopWake (fl : Flags) : (s.setFlags fl).stopWake = s.stopWake := rfl
@[simp] theorem State.setFlags_inputs (fl : Flags) : (s.setFlags fl).inputs = s.inputs := rfl
@[simp] theorem State.setFlags_trace (fl : Flags) : (s.setFlags fl).trace = s.trace := rfl
@[simp] theorem State.setFlags_opcodeAddr (fl : Flags) : (s.setFlags fl).opcodeAddr = s.opcodeAddr := rfl

/-! ### setHl -/

@[simp] theorem State.setHl_a (v : Word) : (s.setHl v).a = s.a := rfl
@[simp] theorem State.setHl_f (v : Word) : (s.setHl v).f = s.f := rfl
@[simp] theorem State.setHl_b (v : Word) : (s.setHl v).b = s.b := rfl
@[simp] theorem State.setHl_c (v : Word) : (s.setHl v).c = s.c := rfl
@[simp] theorem State.setHl_d (v : Word) : (s.setHl v).d = s.d := rfl
@[simp] theorem State.setHl_e (v : Word) : (s.setHl v).e = s.e := rfl
@[simp] theorem State.setHl_sp (v : Word) : (s.setHl v).sp = s.sp := rfl
@[simp] theorem State.setHl_pc (v : Word) : (s.setHl v).pc = s.pc := rfl
@[simp] theorem State.setHl_cr (v : Word) : (s.setHl v).cr = s.cr := rfl
@[simp] theorem State.setHl_ime (v : Word) : (s.setHl v).ime = s.ime := rfl
@[simp] theorem State.setHl_eiPending (v : Word) : (s.setHl v).eiPending = s.eiPending := rfl
@[simp] theorem State.setHl_halted (v : Word) : (s.setHl v).halted = s.halted := rfl
@[simp] theorem State.setHl_stopped (v : Word) : (s.setHl v).stopped = s.stopped := rfl
@[simp] theorem State.setHl_haltBug (v : Word) : (s.setHl v).haltBug = s.haltBug := rfl
@[simp] theorem State.setHl_locked (v : Word) : (s.setHl v).locked = s.locked := rfl
@[simp] theorem State.setHl_fault (v : Word) : (s.setHl v).fault = s.fault := rfl
@[simp] theorem State.setHl_mem (v : Word) : (s.setHl v).mem = s.mem := rfl
@[simp] theorem State.setHl_regions (v : Word) : (s.setHl v).regions = s.regions := rfl
@[simp] theorem State.setHl_answers (v : Word) : (s.setHl v).answers = s.answers := rfl
@[simp] theorem State.setHl_cfg (v : Word) : (s.setHl v).cfg = s.cfg := rfl
@[simp] theorem State.setHl_irqReq (v : Word) : (s.setHl v).irqReq = s.irqReq := rfl
@[simp] theorem State.setHl_stopWake (v : Word) : (s.setHl v).stopWake = s.stopWake := rfl
@[simp] theorem State.setHl_inputs (v : Word) : (s.setHl v).inputs = s.inputs := rfl
@[simp] theorem State.setHl_trace (v : Word) : (s.setHl v).trace = s.trace := rfl
@[simp] theorem State.setHl_opcodeAddr (v : Word) : (s.setHl v).opcodeAddr = s.opcodeAddr := rfl

/-! ### setPair -/

@[simp] theorem State.setPair_a (p : Pair) (v : Word) : (s.setPair p v).a = s.a := by cases p <;> rfl
@[simp] theorem State.setPair_f (p : Pair) (v : Word) : (s.setPair p v).f = s.f := by cases p <;> rfl
@[simp] theorem State.setPair_pc (p : Pair) (v : Word) : (s.setPair p v).pc = s.pc := by cases p <;> rfl
@[simp] theorem State.setPair_cr (p : Pair) (v : Word) : (s.setPair p v).cr = s.cr := by cases p <;> rfl
@[simp] theorem State.setPair_ime (p : Pair) (v : Word) : (s.setPair p v).ime = s.ime := by cases p <;> rfl
@[simp] theorem State.setPair_eiPending (p : Pair) (v : Word) : (s.setPair p v).eiPending = s.eiPending := by cases p <;> rfl
@[simp] theorem State.setPair_halted (p : Pair) (v : Word) : (s.setPair p v).halted = s.halted := by cases p <;> rfl
@[simp] theorem State.setPair_stopped (p : Pair) (v : Word) : (s.setPair p v).stopped = s.stopped := by cases p <;> rfl
@[simp] theorem State.setPair_haltBug (p : Pair) (v : Word) : (s.setPair p v).haltBug = s.haltBug := by cases p <;> rfl
@[simp] theorem State.setPair_locked (p : Pair) (v : Word) : (s.setPair p v).locked = s.locked := by cases p <;> rfl
@[simp] theorem State.setPair_fault (p : Pair) (v : Word) : (s.setPair p v).fault = s.fault := by cases p <;> rfl
@[simp] theorem State.setPair_mem (p : Pair) (v : Word) : (s.setPair p v).mem = s.mem := by cases p <;> rfl
@[simp] theorem State.setPair_regions (p : Pair) (v : Word) : (s.setPair p v).regions = s.regions := by cases p <;> rfl
@[simp] theorem State.setPair_answers (p : Pair) (v : Word) : (s.setPair p v).answers = s.answers := by cases p <;> rfl
@[simp] theorem State.setPair_cfg (p : Pair) (v : Word) : (s.setPair p v).cfg = s.cfg := by cases p <;> rfl
@[simp] theorem State.setPair_irqReq (p : Pair) (v : Word) : (s.setPair p v).irqReq = s.irqReq := by cases p <;> rfl
@[simp] theorem State.setPair_stopWake (p : Pair) (v : Word) : (s.setPair p v).stopWake = s.stopWake := by cases p <;> rfl
@[simp] theorem State.setPair_inputs (p : Pair) (v : Word) : (s.setPair p v).inputs = s.inputs := by cases p <;> rfl
@[simp] theorem State.setPair_trace (p : Pair) (v : Word) : (s.setPair p v).trace = s.trace := by cases p <;> rfl
@[simp] theorem State.setPair_opcodeAddr (p : Pair) (v : Word) : (s.setPair p v).opcodeAddr = s.opcodeAddr := by cases p <;> rfl

/-! ### setStackPair -/

@[simp] theorem State.setStackPair_sp (p : StackPair) (v : Word) : (s.setStackPair p v).sp = s.sp := by cases p <;> rfl
@[simp] theorem State.setStackPair_pc (p : StackPair) (v : Word) : (s.setStackPair p v).pc = s.pc := by cases p <;> rfl
@[simp] theorem State.setStackPair_cr (p : StackPair) (v : Word) : (s.setStackPair p v).cr = s.cr := by cases p <;> rfl
@[simp] theorem State.setStackPair_ime (p : StackPair) (v : Word) : (s.setStackPair p v).ime = s.ime := by cases p <;> rfl
@[simp] theorem State.setStackPair_eiPending (p : StackPair) (v : Word) : (s.setStackPair p v).eiPending = s.eiPending := by cases p <;> rfl
@[simp] theorem State.setStackPair_halted (p : StackPair) (v : Word) : (s.setStackPair p v).halted = s.halted := by cases p <;> rfl
@[simp] theorem State.setStackPair_stopped (p : StackPair) (v : Word) : (s.setStackPair p v).stopped = s.stopped := by cases p <;> rfl
@[simp] theorem State.setStackPair_haltBug (p : StackPair) (v : Word) : (s.setStackPair p v).haltBug = s.haltBug := by cases p <;> rfl
@[simp] theorem State.setStackPair_locked (p : StackPair) (v : Word) : (s.setStackPair p v).locked = s.locked := by cases p <;> rfl
@[simp] theorem State.setStackPair_fault (p : StackPair) (v : Word) : (s.setStackPair p v).fault = s.fault := by cases p <;> rfl
@[simp] theorem State.setStackPair_mem (p : StackPair) (v : Word) : (s.setStackPair p v).mem = s.mem := by cases p <;> rfl
@[simp] theorem State.setStackPair_regions (p : StackPair) (v : Word) : (s.setStackPair p v).regions = s.regions := by cases p <;> rfl
@[simp] theorem State.setStackPair_answers (p : StackPair) (v : Word) : (s.setStackPair p v).answers = s.answers := by cases p <;> rfl
@[simp] theorem State.setStackPair_cfg (p : StackPair) (v : Word) : (s.setStackPair p v).cfg = s.cfg := by cases p <;> rfl
@[simp] theorem State.setStackPair_irqReq (p : StackPair) (v : Word) : (s.setStackPair p v).irqReq = s.irqReq := by cases p <;> rfl
@[simp] theorem State.setStackPair_stopWake (p : StackPair) (v : Word) : (s.setStackPair p v).stopWake = s.stopWake := by cases p <;> rfl
@[simp] theorem State.setStackPair_inputs (p : StackPair) (v : Word) : (s.setStackPair p v).inputs = s.inputs := by cases p <;> rfl
@[simp] theorem State.setStackPair_trace (p : StackPair) (v : Word) : (s.setStackPair p v).trace = s.trace := by cases p <;> rfl
@[simp] theorem State.setStackPair_opcodeAddr (p : StackPair) (v : Word) : (s.setStackPair p v).opcodeAddr = s.opcodeAddr := by cases p <;> rfl

/-! ### emit -/

@[simp] theorem State.emit_a (ev : BusEvent) : (s.emit ev).a = s.a := rfl
@[simp] theorem State.emit_f (ev : BusEvent) : (s.emit ev).f = s.f := rfl
@[simp] theorem State.emit_b (ev : BusEvent) : (s.emit ev).b = s.b := rfl
@[simp] theorem State.emit_c (ev : BusEvent) : (s.emit ev).c = s.c := rfl
@[simp] theorem State.emit_d (ev : BusEvent) : (s.emit ev).d = s.d := rfl
@[simp] theorem State.emit_e (ev : BusEvent) : (s.emit ev).e = s.e := rfl
@[simp] theorem State.emit_h (ev : BusEvent) : (s.emit ev).h = s.h := rfl
@[simp] theorem State.emit_l (ev : BusEvent) : (s.emit ev).l = s.l := rfl
@[simp] theorem State.emit_sp (ev : BusEvent) : (s.emit ev).sp = s.sp := rfl
@[simp] theorem State.emit_pc (ev : BusEvent) : (s.emit ev).pc = s.pc := rfl
@[simp] theorem State.emit_cr (ev : BusEvent) : (s.emit ev).cr = s.cr := rfl
@[simp] theorem State.emit_ime (ev : BusEvent) : (s.emit ev).ime = s.ime := rfl
@[simp] theorem State.emit_eiPending (ev : BusEvent) : (s.emit ev).eiPending = s.eiPending := rfl
@[simp] theorem State.emit_halted (ev : BusEvent) : (s.emit ev).halted = s.halted := rfl
@[simp] theorem State.emit_stopped (ev : BusEvent) : (s.emit ev).stopped = s.stopped := rfl
@[simp] theorem State.emit_haltBug (ev : BusEvent) : (s.emit ev).haltBug = s.haltBug := rfl
@[simp] theorem State.emit_locked (ev : BusEvent) : (s.emit ev).locked = s.locked := rfl
@[simp] theorem State.emit_fault (ev : BusEvent) : (s.emit ev).fault = s.fault := rfl
@[simp] theorem State.emit_mem (ev : BusEvent) : (s.emit ev).mem = s.mem := rfl
@[simp] theorem State.emit_regions (ev : BusEvent) : (s.emit ev).regions = s.regions := rfl
@[simp] theorem State.emit_answers (ev : BusEvent) : (s.emit ev).answers = s.answers := rfl
@[simp] theorem State.emit_cfg (ev : BusEvent) : (s.emit ev).cfg = s.cfg := rfl
@[simp] theorem State.emit_irqReq (ev : BusEvent) : (s.emit ev).irqReq = s.irqReq := rfl
@[simp] theorem State.emit_stopWake (ev : BusEvent) : (s.emit ev).stopWake = s.stopWake := rfl
@[simp] theorem State.emit_inputs (ev : BusEvent) : (s.emit ev).inputs = s.inputs := rfl
@[simp] theorem State.emit_opcodeAddr (ev : BusEvent) : (s.emit ev).opcodeAddr = s.opcodeAddr := rfl

/-! ### afterRead -/

@[simp] theorem State.afterRead_a (w : Word) : (s.afterRead w).a = s.a := rfl
@[simp] theorem State.afterRead_f (w : Word) : (s.afterRead w).f = s.f := rfl
@[simp] theorem State.afterRead_b (w : Word) : (s.afterRead w).b = s.b := rfl
@[simp] theorem State.afterRead_c (w : Word) : (s.afterRead w).c = s.c := rfl
@[simp] theorem State.afterRead_d (w : Word) : (s.afterRead w).d = s.d := rfl
@[simp] theorem State.afterRead_e (w : Word) : (s.afterRead w).e = s.e := rfl
@[simp] theorem State.afterRead_h (w : Word) : (s.afterRead w).h = s.h := rfl
@[simp] theorem State.afterRead_l (w : Word) : (s.afterRead w).l = s.l := rfl
@[simp] theorem State.afterRead_sp (w : Word) : (s.afterRead w).sp = s.sp := rfl
@[simp] theorem State.afterRead_pc (w : Word) : (s.afterRead w).pc = s.pc := rfl
@[simp] theorem State.afterRead_cr (w : Word) : (s.afterRead w).cr = s.cr := rfl
@[simp] theorem State.afterRead_ime (w : Word) : (s.afterRead w).ime = s.ime := rfl
@[simp] theorem State.afterRead_eiPending (w : Word) : (s.afterRead w).eiPending = s.eiPending := rfl
@[simp] theorem State.afterRead_halted (w : Word) : (s.afterRead w).halted = s.halted := rfl
@[simp] theorem State.afterRead_stopped (w : Word) : (s.afterRead w).stopped = s.stopped := rfl
@[simp] theorem State.afterRead_haltBug (w : Word) : (s.afterRead w).haltBug = s.haltBug := rfl
@[simp] theorem State.afterRead_locked (w : Word) : (s.afterRead w).locked = s.locked := rfl
@[simp] theorem State.afterRead_fault (w : Word) : (s.afterRead w).fault = s.fault := rfl
@[simp] theorem State.afterRead_mem (w : Word) : (s.afterRead w).mem = s.mem := rfl
@[simp] theorem State.afterRead_regions (w : Word) : (s.afterRead w).regions = s.regions := rfl
@[simp] theorem State.afterRead_cfg (w : Word) : (s.afterRead w).cfg = s.cfg := rfl
@[simp] theorem State.afterRead_irqReq (w : Word) : (s.afterRead w).irqReq = s.irqReq := rfl
@[simp] theorem State.afterRead_stopWake (w : Word) : (s.afterRead w).stopWake = s.stopWake := rfl
@[simp] theorem State.afterRead_inputs (w : Word) : (s.afterRead w).inputs = s.inputs := rfl
@[simp] theorem State.afterRead_opcodeAddr (w : Word) : (s.afterRead w).opcodeAddr = s.opcodeAddr := rfl

/-! ### memRead -/

@[simp] theorem State.memRead_a (w : Word) : ((s.memRead w).2).a = s.a := rfl
@[simp] theorem State.memRead_f (w : Word) : ((s.memRead w).2).f = s.f := rfl
@[simp] theorem State.memRead_b (w : Word) : ((s.memRead w).2).b = s.b := rfl
@[simp] theorem State.memRead_c (w : Word) : ((s.memRead w).2).c = s.c := rfl
@[simp] theorem State.memRead_d (w : Word) : ((s.memRead w).2).d = s.d := rfl
@[simp] theorem State.memRead_e (w : Word) : ((s.memRead w).2).e = s.e := rfl
@[simp] theorem State.memRead_h (w : Word) : ((s.memRead w).2).h = s.h := rfl
@[simp] theorem State.memRead_l (w : Word) : ((s.memRead w).2).l = s.l := rfl
@[simp] theorem State.memRead_sp (w : Word) : ((s.memRead w).2).sp = s.sp := rfl
@[simp] theorem State.memRead_pc (w : Word) : ((s.memRead w).2).pc = s.pc := rfl
@[simp] theorem State.memRead_cr (w : Word) : ((s.memRead w).2).cr = s.cr := rfl
@[simp] theorem State.memRead_ime (w : Word) : ((s.memRead w).2).ime = s.ime := rfl
@[simp] theorem State.memRead_eiPending (w : Word) : ((s.memRead w).2).eiPending = s.eiPending := rfl
@[simp] theorem State.memRead_halted (w : Word) : ((s.memRead w).2).halted = s.halted := rfl
@[simp] theorem State.memRead_stopped (w : Word) : ((s.memRead w).2).stopped = s.stopped := rfl
@[simp] theorem State.memRead_haltBug (w : Word) : ((s.memRead w).2).haltBug = s.haltBug := rfl
@[simp] theorem State.memRead_locked (w : Word) : ((s.memRead w).2).locked = s.locked := rfl
@[simp] theorem State.memRead_fault (w : Word) : ((s.memRead w).2).fault = s.fault := rfl
@[simp] theorem State.memRead_mem (w : Word) : ((s.memRead w).2).mem = s.mem := rfl
@[simp] theorem State.memRead_regions (w : Word) : ((s.memRead w).2).regions = s.regions := rfl
@[simp] theorem State.memRead_cfg (w : Word) : ((s.memRead w).2).cfg = s.cfg := rfl
@[simp] theorem State.memRead_irqReq (w : Word) : ((s.memRead w).2).irqReq = s.irqReq := rfl
@[simp] theorem State.memRead_stopWake (w : Word) : ((s.memRead w).2).stopWake = s.stopWake := rfl
@[simp] theorem State.memRead_inputs (w : Word) : ((s.memRead w).2).inputs = s.inputs := rfl
@[simp] theorem State.memRead_opcodeAddr (w : Word) : ((s.memRead w).2).opcodeAddr = s.opcodeAddr := rfl

/-! ### memWrite -/

@[simp] theorem State.memWrite_a (w : Word) (v : Byte) : (s.memWrite w v).a = s.a := rfl
@[simp] theorem State.memWrite_f (w : Word) (v : Byte) : (s.memWrite w v).f = s.f := rfl
@[simp] theorem State.memWrite_b (w : Word) (v : Byte) : (s.memWrite w v).b = s.b := rfl
@[simp] theorem State.memWrite_c (w : Word) (v : Byte) : (s.memWrite w v).c = s.c := rfl
@[simp] theorem State.memWrite_d (w : Word) (v : Byte) : (s.memWrite w v).d = s.d := rfl
@[simp] theorem State.memWrite_e (w : Word) (v : Byte) : (s.memWrite w v).e = s.e := rfl
@[simp] theorem State.memWrite_h (w : Word) (v : Byte) : (s.memWrite w v).h = s.h := rfl
@[simp] theorem State.memWrite_l (w : Word) (v : Byte) : (s.memWrite w v).l = s.l := rfl
@[simp] theorem State.memWrite_sp (w : Word) (v : Byte) : (s.memWrite w v).sp = s.sp := rfl
@[simp] theorem State.memWrite_pc (w : Word) (v : Byte) : (s.memWrite w v).pc = s.pc := rfl
@[simp] theorem State.memWrite_cr (w : Word) (v : Byte) : (s.memWrite w v).cr = s.cr := rfl
@[simp] theorem State.memWrite_ime (w : Word) (v : Byte) : (s.memWrite w v).ime = s.ime := rfl
@[simp] theorem State.memWrite_eiPending (w : Word) (v : Byte) : (s.memWrite w v).eiPending = s.eiPending := rfl
@[simp] theorem State.memWrite_halted (w : Word) (v : Byte) : (s.memWrite w v).halted = s.halted := rfl
@[simp] theorem State.memWrite_stopped (w : Word) (v : Byte) : (s.memWrite w v).stopped = s.stopped := rfl
@[simp] theorem State.memWrite_haltBug (w : Word) (v : Byte) : (s.memWrite w v).haltBug = s.haltBug := rfl
@[simp] theorem State.memWrite_locked (w : Word) (v : Byte) : (s.memWrite w v).locked = s.locked := rfl
@[simp] theorem State.memWrite_fault (w : Word) (v : Byte) : (s.memWrite w v).fault = s.fault := rfl
@[simp] theorem State.memWrite_regions (w : Word) (v : Byte) : (s.memWrite w v).regions = s.regions := rfl
@[simp] theorem State.memWrite_answers (w : Word) (v : Byte) : (s.memWrite w v).answers = s.answers := rfl
@[simp] theorem State.memWrite_cfg (w : Word) (v : Byte) : (s.memWrite w v).cfg = s.cfg := rfl
@[simp] theorem State.memWrite_irqReq (w : Word) (v : Byte) : (s.memWrite w v).irqReq = s.irqReq := rfl
@[simp] theorem State.memWrite_stopWake (w : Word) (v : Byte) : (s.memWrite w v).stopWake = s.stopWake := rfl
@[simp] theorem State.memWrite_inputs (w : Word) (v : Byte) : (s.memWrite w v).inputs = s.inputs := rfl
@[simp] theorem State.memWrite_opcodeAddr (w : Word) (v : Byte) : (s.memWrite w v).opcodeAddr = s.opcodeAddr := rfl

/-! ### setMem -/

@[simp] theorem State.setMem_a (m : Memory) : (s.setMem m).a = s.a := rfl
@[simp] theorem State.setMem_f (m : Memory) : (s.setMem m).f = s.f := rfl
@[simp] theorem State.setMem_b (m : Memory) : (s.setMem m).b = s.b := rfl
@[simp] theorem State.setMem_c (m : Memory) : (s.setMem m).c = s.c := rfl
@[simp] theorem State.setMem_d (m : Memory) : (s.setMem m).d = s.d := rfl
@[simp] theorem State.setMem_e (m : Memory) : (s.setMem m).e = s.e := rfl
@[simp] theorem State.setMem_h (m : Memory) : (s.setMem m).h = s.h := rfl
@[simp] theorem State.setMem_l (m : Memory) : (s.setMem m).l = s.l := rfl
@[simp] theorem State.setMem_sp (m : Memory) : (s.setMem m).sp = s.sp := rfl
@[simp] theorem State.setMem_pc (m : Memory) : (s.setMem m).pc = s.pc := rfl
@[simp] theorem State.setMem_cr (m : Memory) : (s.setMem m).cr = s.cr := rfl
@[simp] theorem State.setMem_ime (m : Memory) : (s.setMem m).ime = s.ime := rfl
@[simp] theorem State.setMem_eiPending (m : Memory) : (s.setMem m).eiPending = s.eiPending := rfl
@[simp] theorem State.setMem_halted (m : Memory) : (s.setMem m).halted = s.halted := rfl
@[simp] theorem State.setMem_stopped (m : Memory) : (s.setMem m).stopped = s.stopped := rfl
@[simp] theorem State.setMem_haltBug (m : Memory) : (s.setMem m).haltBug = s.haltBug := rfl
@[simp] theorem State.setMem_locked (m : Memory) : (s.setMem m).locked = s.locked := rfl
@[simp] theorem State.setMem_fault (m : Memory) : (s.setMem m).fault = s.fault := rfl
@[simp] theorem State.setMem_regions (m : Memory) : (s.setMem m).regions = s.regions := rfl
@[simp] theorem State.setMem_answers (m : Memory) : (s.setMem m).answers = s.answers := rfl
@[simp] theorem State.setMem_cfg (m : Memory) : (s.setMem m).cfg = s.cfg := rfl
@[simp] theorem State.setMem_irqReq (m : Memory) : (s.setMem m).irqReq = s.irqReq := rfl
@[simp] theorem State.setMem_stopWake (m : Memory) : (s.setMem m).stopWake = s.stopWake := rfl
@[simp] theorem State.setMem_inputs (m : Memory) : (s.setMem m).inputs = s.inputs := rfl
@[simp] theorem State.setMem_trace (m : Memory) : (s.setMem m).trace = s.trace := rfl
@[simp] theorem State.setMem_opcodeAddr (m : Memory) : (s.setMem m).opcodeAddr = s.opcodeAddr := rfl

/-! ### setSp -/

@[simp] theorem State.setSp_a (v : Word) : (s.setSp v).a = s.a := rfl
@[simp] theorem State.setSp_f (v : Word) : (s.setSp v).f = s.f := rfl
@[simp] theorem State.setSp_b (v : Word) : (s.setSp v).b = s.b := rfl
@[simp] theorem State.setSp_c (v : Word) : (s.setSp v).c = s.c := rfl
@[simp] theorem State.setSp_d (v : Word) : (s.setSp v).d = s.d := rfl
@[simp] theorem State.setSp_e (v : Word) : (s.setSp v).e = s.e := rfl
@[simp] theorem State.setSp_h (v : Word) : (s.setSp v).h = s.h := rfl
@[simp] theorem State.setSp_l (v : Word) : (s.setSp v).l = s.l := rfl
@[simp] theorem State.setSp_pc (v : Word) : (s.setSp v).pc = s.pc := rfl
@[simp] theorem State.setSp_cr (v : Word) : (s.setSp v).cr = s.cr := rfl
@[simp] theorem State.setSp_ime (v : Word) : (s.setSp v).ime = s.ime := rfl
@[simp] theorem State.setSp_eiPending (v : Word) : (s.setSp v).eiPending = s.eiPending := rfl
@[simp] theorem State.setSp_halted (v : Word) : (s.setSp v).halted = s.halted := rfl
@[simp] theorem State.setSp_stopped (v : Word) : (s.setSp v).stopped = s.stopped := rfl
@[simp] theorem State.setSp_haltBug (v : Word) : (s.setSp v).haltBug = s.haltBug := rfl
@[simp] theorem State.setSp_locked (v : Word) : (s.setSp v).locked = s.locked := rfl
@[simp] theorem State.setSp_fault (v : Word) : (s.setSp v).fault = s.fault := rfl
@[simp] theorem State.setSp_mem (v : Word) : (s.setSp v).mem = s.mem := rfl
@[simp] theorem State.setSp_regions (v : Word) : (s.setSp v).regions = s.regions := rfl
@[simp] theorem State.setSp_answers (v : Word) : (s.setSp v).answers = s.answers := rfl
@[simp] theorem State.setSp_cfg (v : Word) : (s.setSp v).cfg = s.cfg := rfl
@[simp] theorem State.setSp_irqReq (v : Word) : (s.setSp v).irqReq = s.irqReq := rfl
@[simp] theorem State.setSp_stopWake (v : Word) : (s.setSp v).stopWake = s.stopWake := rfl
@[simp] theorem State.setSp_inputs (v : Word) : (s.setSp v).inputs = s.inputs := rfl
@[simp] theorem State.setSp_trace (v : Word) : (s.setSp v).trace = s.trace := rfl
@[simp] theorem State.setSp_opcodeAddr (v : Word) : (s.setSp v).opcodeAddr = s.opcodeAddr := rfl

/-! ### setPc -/

@[simp] theorem State.setPc_a (v : Word) : (s.setPc v).a = s.a := rfl
@[simp] theorem State.setPc_f (v : Word) : (s.setPc v).f = s.f := rfl
@[simp] theorem State.setPc_b (v : Word) : (s.setPc v).b = s.b := rfl
@[simp] theorem State.setPc_c (v : Word) : (s.setPc v).c = s.c := rfl
@[simp] theorem State.setPc_d (v : Word) : (s.setPc v).d = s.d := rfl
@[simp] theorem State.setPc_e (v : Word) : (s.setPc v).e = s.e := rfl
@[simp] theorem State.setPc_h (v : Word) : (s.setPc v).h = s.h := rfl
@[simp] theorem State.setPc_l (v : Word) : (s.setPc v).l = s.l := rfl
@[simp] theorem State.setPc_sp (v : Word) : (s.setPc v).sp = s.sp := rfl
@[simp] theorem State.setPc_cr (v : Word) : (s.setPc v).cr = s.cr := rfl
@[simp] theorem State.setPc_ime (v : Word) : (s.setPc v).ime = s.ime := rfl
@[simp] theorem State.setPc_eiPending (v : Word) : (s.setPc v).eiPending = s.eiPending := rfl
@[simp] theorem State.setPc_halted (v : Word) : (s.setPc v).halted = s.halted := rfl
@[simp] theorem State.setPc_stopped (v : Word) : (s.setPc v).stopped = s.stopped := rfl
@[simp] theorem State.setPc_haltBug (v : Word) : (s.setPc v).haltBug = s.haltBug := rfl
@[simp] theorem State.setPc_locked (v : Word) : (s.setPc v).locked = s.locked := rfl
@[simp] theorem State.setPc_fault (v : Word) : (s.setPc v).fault = s.fault := rfl
@[simp] theorem State.setPc_mem (v : Word) : (s.setPc v).mem = s.mem := rfl
@[simp] theorem State.setPc_regions (v : Word) : (s.setPc v).regions = s.regions := rfl
@[simp] theorem State.setPc_answers (v : Word) : (s.setPc v).answers = s.answers := rfl
@[simp] theorem State.setPc_cfg (v : Word) : (s.setPc v).cfg = s.cfg := rfl
@[simp] theorem State.setPc_irqReq (v : Word) : (s.setPc v).irqReq = s.irqReq := rfl
@[simp] theorem State.setPc_stopWake (v : Word) : (s.setPc v).stopWake = s.stopWake := rfl
@[simp] theorem State.setPc_inputs (v : Word) : (s.setPc v).inputs = s.inputs := rfl
@[simp] theorem State.setPc_trace (v : Word) : (s.setPc v).trace = s.trace := rfl
@[simp] theorem State.setPc_opcodeAddr (v : Word) : (s.setPc v).opcodeAddr = s.opcodeAddr := rfl

/-! ### setCr -/

@[simp] theorem State.setCr_a (v : Nat) : (s.setCr v).a = s.a := rfl
@[simp] theorem State.setCr_f (v : Nat) : (s.setCr v).f = s.f := rfl
@[simp] theorem State.setCr_b (v : Nat) : (s.setCr v).b = s.b := rfl
@[simp] theorem State.setCr_c (v : Nat) : (s.setCr v).c = s.c := rfl
@[simp] theorem State.setCr_d (v : Nat) : (s.setCr v).d = s.d := rfl
@[simp] theorem State.setCr_e (v : Nat) : (s.setCr v).e = s.e := rfl
@[simp] theorem State.setCr_h (v : Nat) : (s.setCr v).h = s.h := rfl
@[simp] theorem State.setCr_l (v : Nat) : (s.setCr v).l = s.l := rfl
@[simp] theorem State.setCr_sp (v : Nat) : (s.setCr v).sp = s.sp := rfl
@[simp] theorem State.setCr_pc (v : Nat) : (s.setCr v).pc = s.pc := rfl
@[simp] theorem State.setCr_ime (v : Nat) : (s.setCr v).ime = s.ime := rfl
@[simp] theorem State.setCr_eiPending (v : Nat) : (s.setCr v).eiPending = s.eiPending := rfl
@[simp] theorem State.setCr_halted (v : Nat) : (s.setCr v).halted = s.halted := rfl
@[simp] theorem State.setCr_stopped (v : Nat) : (s.setCr v).stopped = s.stopped := rfl
@[simp] theorem State.setCr_haltBug (v : Nat) : (s.setCr v).haltBug = s.haltBug := rfl
@[simp] theorem State.setCr_locked (v : Nat) : (s.setCr v).locked = s.locked := rfl
@[simp] theorem State.setCr_fault (v : Nat) : (s.setCr v).fault = s.fault := rfl
@[simp] theorem State.setCr_mem (v : Nat) : (s.setCr v).mem = s.mem := rfl
@[simp] theorem State.setCr_regions (v : Nat) : (s.setCr v).regions = s.regions := rfl
@[simp] theorem State.setCr_answers (v : Nat) : (s.setCr v).answers = s.answers := rfl
@[simp] theorem State.setCr_cfg (v : Nat) : (s.setCr v).cfg = s.cfg := rfl
@[simp] theorem State.setCr_irqReq (v : Nat) : (s.setCr v).irqReq = s.irqReq := rfl
@[simp] theorem State.setCr_stopWake (v : Nat) : (s.setCr v).stopWake = s.stopWake := rfl
@[simp] theorem State.setCr_inputs (v : Nat) : (s.setCr v).inputs = s.inputs := rfl
@[simp] theorem State.setCr_trace (v : Nat) : (s.setCr v).trace = s.trace := rfl
@[simp] theorem State.setCr_opcodeAddr (v : Nat) : (s.setCr v).opcodeAddr = s.opcodeAddr := rfl

/-! ### setIme -/

@[simp] theorem State.setIme_a (v : Bool) : (s.setIme v).a = s.a := rfl
@[simp] theorem State.setIme_f (v : Bool) : (s.setIme v).f = s.f := rfl
@[simp] theorem State.setIme_b (v : Bool) : (s.setIme v).b = s.b := rfl
@[simp] theorem State.setIme_c (v : Bool) : (s.setIme v).c = s.c := rfl
@[simp] theorem State.setIme_d (v : Bool) : (s.setIme v).d = s.d := rfl
@[simp] theorem State.setIme_e (v : Bool) : (s.setIme v).e = s.e := rfl
@[simp] theorem State.setIme_h (v : Bool) : (s.setIme v).h = s.h := rfl
@[simp] theorem State.setIme_l (v : Bool) : (s.setIme v).l = s.l := rfl
@[simp] theorem State.setIme_sp (v : Bool) : (s.setIme v).sp = s.sp := rfl
@[simp] theorem State.setIme_pc (v : Bool) : (s.setIme v).pc = s.pc := rfl
@[simp] theorem State.setIme_cr (v : Bool) : (s.setIme v).cr = s.cr := rfl
@[simp] theorem State.setIme_eiPending (v : Bool) : (s.setIme v).eiPending = s.eiPending := rfl
@[simp] theorem State.setIme_halted (v : Bool) : (s.setIme v).halted = s.halted := rfl
@[simp] theorem State.setIme_stopped (v : Bool) : (s.setIme v).stopped = s.stopped := rfl
@[simp] theorem State.setIme_haltBug (v : Bool) : (s.setIme v).haltBug = s.haltBug := rfl
@[simp] theorem State.setIme_locked (v : Bool) : (s.setIme v).locked = s.locked := rfl
@[simp] theorem State.setIme_fault (v : Bool) : (s.setIme v).fault = s.fault := rfl
@[simp] theorem State.setIme_mem (v : Bool) : (s.setIme v).mem = s.mem := rfl
@[simp] theorem State.setIme_regions (v : Bool) : (s.setIme v).regions = s.regions := rfl
@[simp] theorem State.setIme_answers (v : Bool) : (s.setIme v).answers = s.answers := rfl
@[simp] theorem State.setIme_cfg (v : Bool) : (s.setIme v).cfg = s.cfg := rfl
@[simp] theorem State.setIme_irqReq (v : Bool) : (s.setIme v).irqReq = s.irqReq := rfl
@[simp] theorem State.setIme_stopWake (v : Bool) : (s.setIme v).stopWake = s.stopWake := rfl
@[simp] theorem State.setIme_inputs (v : Bool) : (s.setIme v).inputs = s.inputs := rfl
@[simp] theorem State.setIme_trace (v : Bool) : (s.setIme v).trace = s.trace := rfl
@[simp] theorem State.setIme_opcodeAddr (v : Bool) : (s.setIme v).opcodeAddr = s.opcodeAddr := rfl

/-! ### setEiPending -/

@[simp] theorem State.setEiPending_a (v : Bool) : (s.setEiPending v).a = s.a := rfl
@[simp] theorem State.setEiPending_f (v : Bool) : (s.setEiPending v).f = s.f := rfl
@[simp] theorem State.setEiPending_b (v : Bool) : (s.setEiPending v).b = s.b := rfl
@[simp] theorem State.setEiPending_c (v : Bool) : (s.setEiPending v).c = s.c := rfl
@[simp] theorem State.setEiPending_d (v : Bool) : (s.setEiPending v).d = s.d := rfl
@[simp] theorem State.setEiPending_e (v : Bool) : (s.setEiPending v).e = s.e := rfl
@[simp] theorem State.setEiPending_h (v : Bool) : (s.setEiPending v).h = s.h := rfl
@[simp] theorem State.setEiPending_l (v : Bool) : (s.setEiPending v).l = s.l := rfl
@[simp] theorem State.setEiPending_sp (v : Bool) : (s.setEiPending v).sp = s.sp := rfl
@[simp] theorem State.setEiPending_pc (v : Bool) : (s.setEiPending v).pc = s.pc := rfl
@[simp] theorem State.setEiPending_cr (v : Bool) : (s.setEiPending v).cr = s.cr := rfl
@[simp] theorem State.setEiPending_ime (v : Bool) : (s.setEiPending v).ime = s.ime := rfl
@[simp] theorem State.setEiPending_halted (v : Bool) : (s.setEiPending v).halted = s.halted := rfl
@[simp] theorem State.setEiPending_stopped (v : Bool) : (s.setEiPending v).stopped = s.stopped := rfl
@[simp] theorem State.setEiPending_haltBug (v : Bool) : (s.setEiPending v).haltBug = s.haltBug := rfl
@[simp] theorem State.setEiPending_locked (v : Bool) : (s.setEiPending v).locked = s.locked := rfl
@[simp] theorem State.setEiPending_fault (v : Bool) : (s.setEiPending v).fault = s.fault := rfl
@[simp] theorem State.setEiPending_mem (v : Bool) : (s.setEiPending v).mem = s.mem := rfl
@[simp] theorem State.setEiPending_regions (v : Bool) : (s.setEiPending v).regions = s.regions := rfl
@[simp] theorem State.setEiPending_answers (v : Bool) : (s.setEiPending v).answers = s.answers := rfl
@[simp] theorem State.setEiPending_cfg (v : Bool) : (s.setEiPending v).cfg = s.cfg := rfl
@[simp] theorem State.setEiPending_irqReq (v : Bool) : (s.setEiPending v).irqReq = s.irqReq := rfl
@[simp] theorem State.setEiPending_stopWake (v : Bool) : (s.setEiPending v).stopWake = s.stopWake := rfl
@[simp] theorem State.setEiPending_inputs (v : Bool) : (s.setEiPending v).inputs = s.inputs := rfl
@[simp] theorem State.setEiPending_trace (v : Bool) : (s.setEiPending v).trace = s.trace := rfl
@[simp] theorem State.setEiPending_opcodeAddr (v : Bool) : (s.setEiPending v).opcodeAddr = s.opcodeAddr := rfl

/-! ### setHalted -/

@[simp] theorem State.setHalted_a (v : Bool) : (s.setHalted v).a = s.a := rfl
@[simp] theorem State.setHalted_f (v : Bool) : (s.setHalted v).f = s.f := rfl
@[simp] theorem State.setHalted_b (v : Bool) : (s.setHalted v).b = s.b := rfl
@[simp] theorem State.setHalted_c (v : Bool) : (s.setHalted v).c = s.c := rfl
@[simp] theorem State.setHalted_d (v : Bool) : (s.setHalted v).d = s.d := rfl
@[simp] theorem State.setHalted_e (v : Bool) : (s.setHalted v).e = s.e := rfl
@[simp] theorem State.setHalted_h (v : Bool) : (s.setHalted v).h = s.h := rfl
@[simp] theorem State.setHalted_l (v : Bool) : (s.setHalted v).l = s.l := rfl
@[simp] theorem State.setHalted_sp (v : Bool) : (s.setHalted v).sp = s.sp := rfl
@[simp] theorem State.setHalted_pc (v : Bool) : (s.setHalted v).pc = s.pc := rfl
@[simp] theorem State.setHalted_cr (v : Bool) : (s.setHalted v).cr = s.cr := rfl
@[simp] theorem State.setHalted_ime (v : Bool) : (s.setHalted v).ime = s.ime := rfl
@[simp] theorem State.setHalted_eiPending (v : Bool) : (s.setHalted v).eiPending = s.eiPending := rfl
@[simp] theorem State.setHalted_stopped (v : Bool) : (s.setHalted v).stopped = s.stopped := rfl
@[simp] theorem State.setHalted_haltBug (v : Bool) : (s.setHalted v).haltBug = s.haltBug := rfl
@[simp] theorem State.setHalted_locked (v : Bool) : (s.setHalted v).locked = s.locked := rfl
@[simp] theorem State.setHalted_fault (v : Bool) : (s.setHalted v).fault = s.fault := rfl
@[simp] theorem State.setHalted_mem (v : Bool) : (s.setHalted v).mem = s.mem := rfl
@[simp] theorem State.setHalted_regions (v : Bool) : (s.setHalted v).regions = s.regions := rfl
@[simp] theorem State.setHalted_answers (v : Bool) : (s.setHalted v).answers = s.answers := rfl
@[simp] theorem State.setHalted_cfg (v : Bool) : (s.setHalted v).cfg = s.cfg := rfl
@[simp] theorem State.setHalted_irqReq (v : Bool) : (s.setHalted v).irqReq = s.irqReq := rfl
@[simp] theorem State.setHalted_stopWake (v : Bool) : (s.setHalted v).stopWake = s.stopWake := rfl
@[simp] theorem State.setHalted_inputs (v : Bool) : (s.setHalted v).inputs = s.inputs := rfl
@[simp] theorem State.setHalted_trace (v : Bool) : (s.setHalted v).trace = s.trace := rfl
@[simp] theorem State.setHalted_opcodeAddr (v : Bool) : (s.setHalted v).opcodeAddr = s.opcodeAddr := rfl

/-! ### setStopped -/

@[simp] theorem State.setStopped_a (v : Bool) : (s.setStopped v).a = s.a := rfl
@[simp] theorem State.setStopped_f (v : Bool) : (s.setStopped v).f = s.f := rfl
@[simp] theorem State.setStopped_b (v : Bool) : (s.setStopped v).b = s.b := rfl
@[simp] theorem State.setStopped_c (v : Bool) : (s.setStopped v).c = s.c := rfl
@[simp] theorem State.setStopped_d (v : Bool) : (s.setStopped v).d = s.d := rfl
@[simp] theorem State.setStopped_e (v : Bool) : (s.setStopped v).e = s.e := rfl
@[simp] theorem State.setStopped_h (v : Bool) : (s.setStopped v).h = s.h := rfl
@[simp] theorem State.setStopped_l (v : Bool) : (s.setStopped v).l = s.l := rfl
@[simp] theorem State.setStopped_sp (v : Bool) : (s.setStopped v).sp = s.sp := rfl
@[simp] theorem State.setStopped_pc (v : Bool) : (s.setStopped v).pc = s.pc := rfl
@[simp] theorem State.setStopped_cr (v : Bool) : (s.setStopped v).cr = s.cr := rfl
@[simp] theorem State.setStopped_ime (v : Bool) : (s.setStopped v).ime = s.ime := rfl
@[simp] theorem State.setStopped_eiPending (v : Bool) : (s.setStopped v).eiPending = s.eiPending := rfl
@[simp] theorem State.setStopped_halted (v : Bool) : (s.setStopped v).halted = s.halted := rfl
@[simp] theorem State.setStopped_haltBug (v : Bool) : (s.setStopped v).haltBug = s.haltBug := rfl
@[simp] theorem State.setStopped_locked (v : Bool) : (s.setStopped v).locked = s.locked := rfl
@[simp] theorem State.setStopped_fault (v : Bool) : (s.setStopped v).fault = s.fault := rfl
@[simp] theorem State.setStopped_mem (v : Bool) : (s.setStopped v).mem = s.mem := rfl
@[simp] theorem State.setStopped_regions (v : Bool) : (s.setStopped v).regions = s.regions := rfl
@[simp] theorem State.setStopped_answers (v : Bool) : (s.setStopped v).answers = s.answers := rfl
@[simp] theorem State.setStopped_cfg (v : Bool) : (s.setStopped v).cfg = s.cfg := rfl
@[simp] theorem State.setStopped_irqReq (v : Bool) : (s.setStopped v).irqReq = s.irqReq := rfl
@[simp] theorem State.setStopped_stopWake (v : Bool) : (s.setStopped v).stopWake = s.stopWake := rfl
@[simp] theorem State.setStopped_inputs (v : Bool) : (s.setStopped v).inputs = s.inputs := rfl
@[simp] theorem State.setStopped_trace (v : Bool) : (s.setStopped v).trace = s.trace := rfl
@[simp] theorem State.setStopped_opcodeAddr (v : Bool) : (s.setStopped v).opcodeAddr = s.opcodeAddr := rfl

/-! ### setHaltBug -/

@[simp] theorem State.setHaltBug_a (v : Bool) : (s.setHaltBug v).a = s.a := rfl
@[simp] theorem State.setHaltBug_f (v : Bool) : (s.setHaltBug v).f = s.f := rfl
@[simp] theorem State.setHaltBug_b (v : Bool) : (s.setHaltBug v).b = s.b := rfl
@[simp] theorem State.setHaltBug_c (v : Bool) : (s.setHaltBug v).c = s.c := rfl
@[simp] theorem State.setHaltBug_d (v : Bool) : (s.setHaltBug v).d = s.d := rfl
@[simp] theorem State.setHaltBug_e (v : Bool) : (s.setHaltBug v).e = s.e := rfl
@[simp] theorem State.setHaltBug_h (v : Bool) : (s.setHaltBug v).h = s.h := rfl
@[simp] theorem State.setHaltBug_l (v : Bool) : (s.setHaltBug v).l = s.l := rfl
@[simp] theorem State.setHaltBug_sp (v : Bool) : (s.setHaltBug v).sp = s.sp := rfl
@[simp] theorem State.setHaltBug_pc (v : Bool) : (s.setHaltBug v).pc = s.pc := rfl
@[simp] theorem State.setHaltBug_cr (v : Bool) : (s.setHaltBug v).cr = s.cr := rfl
@[simp] theorem State.setHaltBug_ime (v : Bool) : (s.setHaltBug v).ime = s.ime := rfl
@[simp] theorem State.setHaltBug_eiPending (v : Bool) : (s.setHaltBug v).eiPending = s.eiPending := rfl
@[simp] theorem State.setHaltBug_halted (v : Bool) : (s.setHaltBug v).halted = s.halted := rfl
@[simp] theorem State.setHaltBug_stopped (v : Bool) : (s.setHaltBug v).stopped = s.stopped := rfl
@[simp] theorem State.setHaltBug_locked (v : Bool) : (s.setHaltBug v).locked = s.locked := rfl
@[simp] theorem State.setHaltBug_fault (v : Bool) : (s.setHaltBug v).fault = s.fault := rfl
@[simp] theorem State.setHaltBug_mem (v : Bool) : (s.setHaltBug v).mem = s.mem := rfl
@[simp] theorem State.setHaltBug_regions (v : Bool) : (s.setHaltBug v).regions = s.regions := rfl
@[simp] theorem State.setHaltBug_answers (v : Bool) : (s.setHaltBug v).answers = s.answers := rfl
@[simp] theorem State.setHaltBug_cfg (v : Bool) : (s.setHaltBug v).cfg = s.cfg := rfl
@[simp] theorem State.setHaltBug_irqReq (v : Bool) : (s.setHaltBug v).irqReq = s.irqReq := rfl
@[simp] theorem State.setHaltBug_stopWake (v : Bool) : (s.setHaltBug v).stopWake = s.stopWake := rfl
@[simp] theorem State.setHaltBug_inputs (v : Bool) : (s.setHaltBug v).inputs = s.inputs := rfl
@[simp] theorem State.setHaltBug_trace (v : Bool) : (s.setHaltBug v).trace = s.trace := rfl
@[simp] theorem State.setHaltBug_opcodeAddr (v : Bool) : (s.setHaltBug v).opcodeAddr = s.opcodeAddr := rfl

/-! ### setLocked -/

@[simp] theorem State.setLocked_a (v : Bool) : (s.setLocked v).a = s.a := rfl
@[simp] theorem State.setLocked_f (v : Bool) : (s.setLocked v).f = s.f := rfl
@[simp] theorem State.setLocked_b (v : Bool) : (s.setLocked v).b = s.b := rfl
@[simp] theorem State.setLocked_c (v : Bool) : (s.setLocked v).c = s.c := rfl
@[simp] theorem State.setLocked_d (v : Bool) : (s.setLocked v).d = s.d := rfl
@[simp] theorem State.setLocked_e (v : Bool) : (s.setLocked v).e = s.e := rfl
@[simp] theorem State.setLocked_h (v : Bool) : (s.setLocked v).h = s.h := rfl
@[simp] theorem State.setLocked_l (v : Bool) : (s.setLocked v).l = s.l := rfl
@[simp] theorem State.setLocked_sp (v : Bool) : (s.setLocked v).sp = s.sp := rfl
@[simp] theorem State.setLocked_pc (v : Bool) : (s.setLocked v).pc = s.pc := rfl
@[simp] theorem State.setLocked_cr (v : Bool) : (s.setLocked v).cr = s.cr := rfl
@[simp] theorem State.setLocked_ime (v : Bool) : (s.setLocked v).ime = s.ime := rfl
@[simp] theorem State.setLocked_eiPending (v : Bool) : (s.setLocked v).eiPending = s.eiPending := rfl
@[simp] theorem State.setLocked_halted (v : Bool) : (s.setLocked v).halted = s.halted := rfl
@[simp] theorem State.setLocked_stopped (v : Bool) : (s.setLocked v).stopped = s.stopped := rfl
@[simp] theorem State.setLocked_haltBug (v : Bool) : (s.setLocked v).haltBug = s.haltBug := rfl
@[simp] theorem State.setLocked_fault (v : Bool) : (s.setLocked v).fault = s.fault := rfl
@[simp] theorem State.setLocked_mem (v : Bool) : (s.setLocked v).mem = s.mem := rfl
@[simp] theorem State.setLocked_regions (v : Bool) : (s.setLocked v).regions = s.regions := rfl
@[simp] theorem State.setLocked_answers (v : Bool) : (s.setLocked v).answers = s.answers := rfl
@[simp] theorem State.setLocked_cfg (v : Bool) : (s.setLocked v).cfg = s.cfg := rfl
@[simp] theorem State.setLocked_irqReq (v : Bool) : (s.setLocked v).irqReq = s.irqReq := rfl
@[simp] theorem State.setLocked_stopWake (v : Bool) : (s.setLocked v).stopWake = s.stopWake := rfl
@[simp] theorem State.setLocked_inputs (v : Bool) : (s.setLocked v).inputs = s.inputs := rfl
@[simp] theorem State.setLocked_trace (v : Bool) : (s.setLocked v).trace = s.trace := rfl
@[simp] theorem State.setLocked_opcodeAddr (v : Bool) : (s.setLocked v).opcodeAddr = s.opcodeAddr := rfl

/-! ### setFault -/

@[simp] theorem State.setFault_a (v : FaultRegister) : (s.setFault v).a = s.a := rfl
@[simp] theorem State.setFault_f (v : FaultRegister) : (s.setFault v).f = s.f := rfl
@[simp] theorem State.setFault_b (v : FaultRegister) : (s.setFault v).b = s.b := rfl
@[simp] theorem State.setFault_c (v : FaultRegister) : (s.setFault v).c = s.c := rfl
@[simp] theorem State.setFault_d (v : FaultRegister) : (s.setFault v).d = s.d := rfl
@[simp] theorem State.setFault_e (v : FaultRegister) : (s.setFault v).e = s.e := rfl
@[simp] theorem State.setFault_h (v : FaultRegister) : (s.setFault v).h = s.h := rfl
@[simp] theorem State.setFault_l (v : FaultRegister) : (s.setFault v).l = s.l := rfl
@[simp] theorem State.setFault_sp (v : FaultRegister) : (s.setFault v).sp = s.sp := rfl
@[simp] theorem State.setFault_pc (v : FaultRegister) : (s.setFault v).pc = s.pc := rfl
@[simp] theorem State.setFault_cr (v : FaultRegister) : (s.setFault v).cr = s.cr := rfl
@[simp] theorem State.setFault_ime (v : FaultRegister) : (s.setFault v).ime = s.ime := rfl
@[simp] theorem State.setFault_eiPending (v : FaultRegister) : (s.setFault v).eiPending = s.eiPending := rfl
@[simp] theorem State.setFault_halted (v : FaultRegister) : (s.setFault v).halted = s.halted := rfl
@[simp] theorem State.setFault_stopped (v : FaultRegister) : (s.setFault v).stopped = s.stopped := rfl
@[simp] theorem State.setFault_haltBug (v : FaultRegister) : (s.setFault v).haltBug = s.haltBug := rfl
@[simp] theorem State.setFault_locked (v : FaultRegister) : (s.setFault v).locked = s.locked := rfl
@[simp] theorem State.setFault_mem (v : FaultRegister) : (s.setFault v).mem = s.mem := rfl
@[simp] theorem State.setFault_regions (v : FaultRegister) : (s.setFault v).regions = s.regions := rfl
@[simp] theorem State.setFault_answers (v : FaultRegister) : (s.setFault v).answers = s.answers := rfl
@[simp] theorem State.setFault_cfg (v : FaultRegister) : (s.setFault v).cfg = s.cfg := rfl
@[simp] theorem State.setFault_irqReq (v : FaultRegister) : (s.setFault v).irqReq = s.irqReq := rfl
@[simp] theorem State.setFault_stopWake (v : FaultRegister) : (s.setFault v).stopWake = s.stopWake := rfl
@[simp] theorem State.setFault_inputs (v : FaultRegister) : (s.setFault v).inputs = s.inputs := rfl
@[simp] theorem State.setFault_trace (v : FaultRegister) : (s.setFault v).trace = s.trace := rfl
@[simp] theorem State.setFault_opcodeAddr (v : FaultRegister) : (s.setFault v).opcodeAddr = s.opcodeAddr := rfl

/-! ### setOpcodeAddr -/

@[simp] theorem State.setOpcodeAddr_a (v : Word) : (s.setOpcodeAddr v).a = s.a := rfl
@[simp] theorem State.setOpcodeAddr_f (v : Word) : (s.setOpcodeAddr v).f = s.f := rfl
@[simp] theorem State.setOpcodeAddr_b (v : Word) : (s.setOpcodeAddr v).b = s.b := rfl
@[simp] theorem State.setOpcodeAddr_c (v : Word) : (s.setOpcodeAddr v).c = s.c := rfl
@[simp] theorem State.setOpcodeAddr_d (v : Word) : (s.setOpcodeAddr v).d = s.d := rfl
@[simp] theorem State.setOpcodeAddr_e (v : Word) : (s.setOpcodeAddr v).e = s.e := rfl
@[simp] theorem State.setOpcodeAddr_h (v : Word) : (s.setOpcodeAddr v).h = s.h := rfl
@[simp] theorem State.setOpcodeAddr_l (v : Word) : (s.setOpcodeAddr v).l = s.l := rfl
@[simp] theorem State.setOpcodeAddr_sp (v : Word) : (s.setOpcodeAddr v).sp = s.sp := rfl
@[simp] theorem State.setOpcodeAddr_pc (v : Word) : (s.setOpcodeAddr v).pc = s.pc := rfl
@[simp] theorem State.setOpcodeAddr_cr (v : Word) : (s.setOpcodeAddr v).cr = s.cr := rfl
@[simp] theorem State.setOpcodeAddr_ime (v : Word) : (s.setOpcodeAddr v).ime = s.ime := rfl
@[simp] theorem State.setOpcodeAddr_eiPending (v : Word) : (s.setOpcodeAddr v).eiPending = s.eiPending := rfl
@[simp] theorem State.setOpcodeAddr_halted (v : Word) : (s.setOpcodeAddr v).halted = s.halted := rfl
@[simp] theorem State.setOpcodeAddr_stopped (v : Word) : (s.setOpcodeAddr v).stopped = s.stopped := rfl
@[simp] theorem State.setOpcodeAddr_haltBug (v : Word) : (s.setOpcodeAddr v).haltBug = s.haltBug := rfl
@[simp] theorem State.setOpcodeAddr_locked (v : Word) : (s.setOpcodeAddr v).locked = s.locked := rfl
@[simp] theorem State.setOpcodeAddr_fault (v : Word) : (s.setOpcodeAddr v).fault = s.fault := rfl
@[simp] theorem State.setOpcodeAddr_mem (v : Word) : (s.setOpcodeAddr v).mem = s.mem := rfl
@[simp] theorem State.setOpcodeAddr_regions (v : Word) : (s.setOpcodeAddr v).regions = s.regions := rfl
@[simp] theorem State.setOpcodeAddr_answers (v : Word) : (s.setOpcodeAddr v).answers = s.answers := rfl
@[simp] theorem State.setOpcodeAddr_cfg (v : Word) : (s.setOpcodeAddr v).cfg = s.cfg := rfl
@[simp] theorem State.setOpcodeAddr_irqReq (v : Word) : (s.setOpcodeAddr v).irqReq = s.irqReq := rfl
@[simp] theorem State.setOpcodeAddr_stopWake (v : Word) : (s.setOpcodeAddr v).stopWake = s.stopWake := rfl
@[simp] theorem State.setOpcodeAddr_inputs (v : Word) : (s.setOpcodeAddr v).inputs = s.inputs := rfl
@[simp] theorem State.setOpcodeAddr_trace (v : Word) : (s.setOpcodeAddr v).trace = s.trace := rfl

/-! ### The fields that are written -/

@[simp] theorem State.setF_f (v : Byte) : (s.setF v).f = v &&& 0xF0#8 := rfl
@[simp] theorem State.setFlags_f (fl : Flags) : (s.setFlags fl).f = fl.pack &&& 0xF0#8 := rfl
@[simp] theorem State.setHl_h (v : Word) : (s.setHl v).h = highByte v := rfl
@[simp] theorem State.setHl_l (v : Word) : (s.setHl v).l = lowByte v := rfl
@[simp] theorem State.emit_trace (ev : BusEvent) : (s.emit ev).trace = ev :: s.trace := rfl
@[simp] theorem State.afterRead_trace (w : Word) : (s.afterRead w).trace = .read w (s.answer w) :: s.trace := rfl
@[simp] theorem State.afterRead_answers (w : Word) : (s.afterRead w).answers = s.answersAfter w := rfl
@[simp] theorem State.memRead_fst (w : Word) : (s.memRead w).1 = s.answer w := rfl
@[simp] theorem State.memRead_trace (w : Word) : (s.memRead w).2.trace = .read w (s.answer w) :: s.trace := rfl
@[simp] theorem State.memRead_answers (w : Word) : (s.memRead w).2.answers = s.answersAfter w := rfl
@[simp] theorem State.memWrite_trace (w : Word) (v : Byte) : (s.memWrite w v).trace = .write w v :: s.trace := rfl
theorem State.memWrite_mem (w : Word) (v : Byte) : (s.memWrite w v).mem = s.memAfterWrite w v := rfl
@[simp] theorem State.setMem_mem (m : Memory) : (s.setMem m).mem = m := rfl
@[simp] theorem State.setSp_sp (v : Word) : (s.setSp v).sp = v := rfl
@[simp] theorem State.setPc_pc (v : Word) : (s.setPc v).pc = v := rfl
@[simp] theorem State.setCr_cr (v : Nat) : (s.setCr v).cr = v := rfl
@[simp] theorem State.setIme_ime (v : Bool) : (s.setIme v).ime = v := rfl
@[simp] theorem State.setEiPending_eiPending (v : Bool) : (s.setEiPending v).eiPending = v := rfl
@[simp] theorem State.setHalted_halted (v : Bool) : (s.setHalted v).halted = v := rfl
@[simp] theorem State.setStopped_stopped (v : Bool) : (s.setStopped v).stopped = v := rfl
@[simp] theorem State.setHaltBug_haltBug (v : Bool) : (s.setHaltBug v).haltBug = v := rfl
@[simp] theorem State.setLocked_locked (v : Bool) : (s.setLocked v).locked = v := rfl
@[simp] theorem State.setFault_fault (v : FaultRegister) : (s.setFault v).fault = v := rfl
@[simp] theorem State.setOpcodeAddr_opcodeAddr (v : Word) : (s.setOpcodeAddr v).opcodeAddr = v := rfl

/-! ### Registers after an update -/

/-- A register write is read back, and leaves every other register alone. -/
@[simp] theorem State.reg_setReg (r q : Reg) (v : Byte) :
    (s.setReg r v).reg q = if q = r then v else s.reg q := by
  cases r <;> cases q <;> rfl

@[simp] theorem State.setReg_a (r : Reg) (v : Byte) : (s.setReg r v).a = if r = .a then v else s.a := by cases r <;> rfl
@[simp] theorem State.setReg_b (r : Reg) (v : Byte) : (s.setReg r v).b = if r = .b then v else s.b := by cases r <;> rfl
@[simp] theorem State.setReg_c (r : Reg) (v : Byte) : (s.setReg r v).c = if r = .c then v else s.c := by cases r <;> rfl
@[simp] theorem State.setReg_d (r : Reg) (v : Byte) : (s.setReg r v).d = if r = .d then v else s.d := by cases r <;> rfl
@[simp] theorem State.setReg_e (r : Reg) (v : Byte) : (s.setReg r v).e = if r = .e then v else s.e := by cases r <;> rfl
@[simp] theorem State.setReg_h (r : Reg) (v : Byte) : (s.setReg r v).h = if r = .h then v else s.h := by cases r <;> rfl
@[simp] theorem State.setReg_l (r : Reg) (v : Byte) : (s.setReg r v).l = if r = .l then v else s.l := by cases r <;> rfl

@[simp] theorem State.reg_setF (q : Reg) (v : Byte) : (s.setF v).reg q = s.reg q := by cases q <;> rfl
@[simp] theorem State.reg_setFlags (q : Reg) (fl : Flags) : (s.setFlags fl).reg q = s.reg q := by cases q <;> rfl
@[simp] theorem State.reg_emit (q : Reg) (ev : BusEvent) : (s.emit ev).reg q = s.reg q := by cases q <;> rfl
@[simp] theorem State.reg_setMem (q : Reg) (m : Memory) : (s.setMem m).reg q = s.reg q := by cases q <;> rfl
@[simp] theorem State.reg_setSp (q : Reg) (v : Word) : (s.setSp v).reg q = s.reg q := by cases q <;> rfl
@[simp] theorem State.reg_setPc (q : Reg) (v : Word) : (s.setPc v).reg q = s.reg q := by cases q <;> rfl
@[simp] theorem State.reg_setCr (q : Reg) (v : Nat) : (s.setCr v).reg q = s.reg q := by cases q <;> rfl
@[simp] theorem State.reg_setIme (q : Reg) (v : Bool) : (s.setIme v).reg q = s.reg q := by cases q <;> rfl
@[simp] theorem State.reg_setEiPending (q : Reg) (v : Bool) : (s.setEiPending v).reg q = s.reg q := by cases q <;> rfl
@[simp] theorem State.reg_setHalted (q : Reg) (v : Bool) : (s.setHalted v).reg q = s.reg q := by cases q <;> rfl
@[simp] theorem State.reg_setStopped (q : Reg) (v : Bool) : (s.setStopped v).reg q = s.reg q := by cases q <;> rfl
@[simp] theorem State.reg_setHaltBug (q : Reg) (v : Bool) : (s.setHaltBug v).reg q = s.reg q := by cases q <;> rfl
@[simp] theorem State.reg_setLocked (q : Reg) (v : Bool) : (s.setLocked v).reg q = s.reg q := by cases q <;> rfl
@[simp] theorem State.reg_setFault (q : Reg) (v : FaultRegister) : (s.setFault v).reg q = s.reg q := by cases q <;> rfl
@[simp] theorem State.reg_setOpcodeAddr (q : Reg) (v : Word) : (s.setOpcodeAddr v).reg q = s.reg q := by cases q <;> rfl
@[simp] theorem State.reg_afterRead (q : Reg) (w : Word) : (s.afterRead w).reg q = s.reg q := by cases q <;> rfl
@[simp] theorem State.reg_memRead (q : Reg) (w : Word) : (s.memRead w).2.reg q = s.reg q := by cases q <;> rfl
@[simp] theorem State.reg_memWrite (q : Reg) (w : Word) (v : Byte) : (s.memWrite w v).reg q = s.reg q := by
  cases q <;> rfl

/-- A write of HL is a write of H and L. -/
theorem State.reg_setHl (q : Reg) (v : Word) :
    (s.setHl v).reg q = if q = .h then highByte v else if q = .l then lowByte v else s.reg q := by
  cases q <;> rfl

/-! ### Memory as read, after an update -/

/-- What a peek answers depends on memory alone. -/
theorem State.peek_of_mem {s t : State} (h : t.mem = s.mem) (w : Word) : t.peek w = s.peek w := by
  simp [State.peek, h]

@[simp] theorem State.peek_setReg (r : Reg) (v : Byte) (w : Word) : (s.setReg r v).peek w = s.peek w :=
  State.peek_of_mem (by simp) w
@[simp] theorem State.peek_setF (v : Byte) (w : Word) : (s.setF v).peek w = s.peek w := rfl
@[simp] theorem State.peek_setFlags (fl : Flags) (w : Word) : (s.setFlags fl).peek w = s.peek w := rfl
@[simp] theorem State.peek_setHl (v w : Word) : (s.setHl v).peek w = s.peek w := rfl
@[simp] theorem State.peek_setPair (p : Pair) (v w : Word) : (s.setPair p v).peek w = s.peek w :=
  State.peek_of_mem (by simp) w
@[simp] theorem State.peek_setStackPair (p : StackPair) (v w : Word) : (s.setStackPair p v).peek w = s.peek w :=
  State.peek_of_mem (by simp) w
@[simp] theorem State.peek_setSp (v : Word) (w : Word) : (s.setSp v).peek w = s.peek w := rfl
@[simp] theorem State.peek_setPc (v : Word) (w : Word) : (s.setPc v).peek w = s.peek w := rfl
@[simp] theorem State.peek_setCr (v : Nat) (w : Word) : (s.setCr v).peek w = s.peek w := rfl
@[simp] theorem State.peek_setIme (v : Bool) (w : Word) : (s.setIme v).peek w = s.peek w := rfl
@[simp] theorem State.peek_setEiPending (v : Bool) (w : Word) : (s.setEiPending v).peek w = s.peek w := rfl
@[simp] theorem State.peek_setHalted (v : Bool) (w : Word) : (s.setHalted v).peek w = s.peek w := rfl
@[simp] theorem State.peek_setStopped (v : Bool) (w : Word) : (s.setStopped v).peek w = s.peek w := rfl
@[simp] theorem State.peek_setHaltBug (v : Bool) (w : Word) : (s.setHaltBug v).peek w = s.peek w := rfl
@[simp] theorem State.peek_setLocked (v : Bool) (w : Word) : (s.setLocked v).peek w = s.peek w := rfl
@[simp] theorem State.peek_setFault (v : FaultRegister) (w : Word) : (s.setFault v).peek w = s.peek w := rfl
@[simp] theorem State.peek_setOpcodeAddr (v : Word) (w : Word) : (s.setOpcodeAddr v).peek w = s.peek w := rfl
@[simp] theorem State.peek_emit (ev : BusEvent) (w : Word) : (s.emit ev).peek w = s.peek w := rfl
@[simp] theorem State.peek_afterRead (w w' : Word) : (s.afterRead w).peek w' = s.peek w' := rfl
@[simp] theorem State.peek_memRead (w w' : Word) : (s.memRead w).2.peek w' = s.peek w' := rfl

/-! ### What the Memory answers, after an update -/

/-- The behaviour at an address depends on the regions alone. -/
theorem State.kindAt_of_regions {s t : State} (h : t.regions = s.regions) (w : Word) : t.kindAt w = s.kindAt w := by
  simp [State.kindAt, h]

/-- An address that is not external answers the byte it holds, and leaves the host's answers. -/
theorem State.answer_held {s : State} {w : Word} (h : s.kindAt w ≠ .external) :
    s.answer w = s.peek w ∧ s.answersAfter w = s.answers :=
  ⟨if_neg h, if_neg h⟩

/-- An external address answers the host's next byte, and uses it up. -/
theorem State.answer_external {s : State} {w : Word} {v : Byte} {rest : List Byte} (h : s.kindAt w = .external)
    (ha : s.answers = v :: rest) : s.answer w = v ∧ s.answersAfter w = rest := by
  simp [State.answer, State.answersAfter, h, ha]

/-- What a write leaves in memory depends on memory and its behaviour. -/
theorem State.memAfterWrite_of {s t : State} (hm : t.mem = s.mem) (hr : t.regions = s.regions) (w : Word) (v : Byte) :
    t.memAfterWrite w v = s.memAfterWrite w v := by
  simp only [State.memAfterWrite, State.kindAt_of_regions hr, hm]

/-- So a write may be moved to a state with the same memory. -/
theorem State.memWrite_mem_of {s t : State} (hm : t.mem = s.mem) (hr : t.regions = s.regions) (w : Word) (v : Byte) :
    (t.memWrite w v).mem = (s.memWrite w v).mem :=
  State.memAfterWrite_of hm hr w v

@[simp] theorem State.memAfterWrite_memRead (w w' : Word) (v : Byte) :
    (s.memRead w).2.memAfterWrite w' v = s.memAfterWrite w' v :=
  State.memAfterWrite_of rfl rfl w' v

/-- What a read answers depends on memory, its behaviour, the host's answers, and the trace. -/
theorem State.answer_of {s t : State} (hm : t.mem = s.mem) (hr : t.regions = s.regions) (ha : t.answers = s.answers)
    (ht : t.trace = s.trace) (w : Word) : t.answer w = s.answer w := by
  simp only [State.answer, State.kindAt_of_regions hr, State.peek_of_mem hm, ha, ht]

@[simp] theorem State.kindAt_setReg (r : Reg) (v : Byte) (w : Word) : (s.setReg r v).kindAt w = s.kindAt w :=
  State.kindAt_of_regions (by simp) _
@[simp] theorem State.answer_setReg (r : Reg) (v : Byte) (w : Word) : (s.setReg r v).answer w = s.answer w :=
  State.answer_of (by simp) (by simp) (by simp) (by simp) w
@[simp] theorem State.kindAt_setF (v : Byte) (w : Word) : (s.setF v).kindAt w = s.kindAt w :=
  State.kindAt_of_regions (by simp) _
@[simp] theorem State.answer_setF (v : Byte) (w : Word) : (s.setF v).answer w = s.answer w :=
  State.answer_of (by simp) (by simp) (by simp) (by simp) w
@[simp] theorem State.kindAt_setFlags (fl : Flags) (w : Word) : (s.setFlags fl).kindAt w = s.kindAt w :=
  State.kindAt_of_regions (by simp) _
@[simp] theorem State.answer_setFlags (fl : Flags) (w : Word) : (s.setFlags fl).answer w = s.answer w :=
  State.answer_of (by simp) (by simp) (by simp) (by simp) w
@[simp] theorem State.kindAt_setHl (v : Word) (w : Word) : (s.setHl v).kindAt w = s.kindAt w :=
  State.kindAt_of_regions (by simp) _
@[simp] theorem State.answer_setHl (v : Word) (w : Word) : (s.setHl v).answer w = s.answer w :=
  State.answer_of (by simp) (by simp) (by simp) (by simp) w
@[simp] theorem State.kindAt_setPair (p : Pair) (v : Word) (w : Word) : (s.setPair p v).kindAt w = s.kindAt w :=
  State.kindAt_of_regions (by simp) _
@[simp] theorem State.answer_setPair (p : Pair) (v : Word) (w : Word) : (s.setPair p v).answer w = s.answer w :=
  State.answer_of (by simp) (by simp) (by simp) (by simp) w
@[simp] theorem State.kindAt_setStackPair (p : StackPair) (v : Word) (w : Word) : (s.setStackPair p v).kindAt w = s.kindAt w :=
  State.kindAt_of_regions (by simp) _
@[simp] theorem State.answer_setStackPair (p : StackPair) (v : Word) (w : Word) : (s.setStackPair p v).answer w = s.answer w :=
  State.answer_of (by simp) (by simp) (by simp) (by simp) w
@[simp] theorem State.kindAt_emit (ev : BusEvent) (w : Word) : (s.emit ev).kindAt w = s.kindAt w :=
  State.kindAt_of_regions (by simp) _
@[simp] theorem State.kindAt_afterRead (w : Word) (w' : Word) : (s.afterRead w).kindAt w' = s.kindAt w' :=
  State.kindAt_of_regions (by simp) _
@[simp] theorem State.kindAt_memRead (w : Word) (w' : Word) : ((s.memRead w).2).kindAt w' = s.kindAt w' :=
  State.kindAt_of_regions (by simp) _
@[simp] theorem State.kindAt_memWrite (w : Word) (v : Byte) (w' : Word) : (s.memWrite w v).kindAt w' = s.kindAt w' :=
  State.kindAt_of_regions (by simp) _
@[simp] theorem State.kindAt_setMem (m : Memory) (w : Word) : (s.setMem m).kindAt w = s.kindAt w :=
  State.kindAt_of_regions (by simp) _
@[simp] theorem State.kindAt_setSp (v : Word) (w : Word) : (s.setSp v).kindAt w = s.kindAt w :=
  State.kindAt_of_regions (by simp) _
@[simp] theorem State.answer_setSp (v : Word) (w : Word) : (s.setSp v).answer w = s.answer w :=
  State.answer_of (by simp) (by simp) (by simp) (by simp) w
@[simp] theorem State.kindAt_setPc (v : Word) (w : Word) : (s.setPc v).kindAt w = s.kindAt w :=
  State.kindAt_of_regions (by simp) _
@[simp] theorem State.answer_setPc (v : Word) (w : Word) : (s.setPc v).answer w = s.answer w :=
  State.answer_of (by simp) (by simp) (by simp) (by simp) w
@[simp] theorem State.kindAt_setCr (v : Nat) (w : Word) : (s.setCr v).kindAt w = s.kindAt w :=
  State.kindAt_of_regions (by simp) _
@[simp] theorem State.answer_setCr (v : Nat) (w : Word) : (s.setCr v).answer w = s.answer w :=
  State.answer_of (by simp) (by simp) (by simp) (by simp) w
@[simp] theorem State.kindAt_setIme (v : Bool) (w : Word) : (s.setIme v).kindAt w = s.kindAt w :=
  State.kindAt_of_regions (by simp) _
@[simp] theorem State.answer_setIme (v : Bool) (w : Word) : (s.setIme v).answer w = s.answer w :=
  State.answer_of (by simp) (by simp) (by simp) (by simp) w
@[simp] theorem State.kindAt_setEiPending (v : Bool) (w : Word) : (s.setEiPending v).kindAt w = s.kindAt w :=
  State.kindAt_of_regions (by simp) _
@[simp] theorem State.answer_setEiPending (v : Bool) (w : Word) : (s.setEiPending v).answer w = s.answer w :=
  State.answer_of (by simp) (by simp) (by simp) (by simp) w
@[simp] theorem State.kindAt_setHalted (v : Bool) (w : Word) : (s.setHalted v).kindAt w = s.kindAt w :=
  State.kindAt_of_regions (by simp) _
@[simp] theorem State.answer_setHalted (v : Bool) (w : Word) : (s.setHalted v).answer w = s.answer w :=
  State.answer_of (by simp) (by simp) (by simp) (by simp) w
@[simp] theorem State.kindAt_setStopped (v : Bool) (w : Word) : (s.setStopped v).kindAt w = s.kindAt w :=
  State.kindAt_of_regions (by simp) _
@[simp] theorem State.answer_setStopped (v : Bool) (w : Word) : (s.setStopped v).answer w = s.answer w :=
  State.answer_of (by simp) (by simp) (by simp) (by simp) w
@[simp] theorem State.kindAt_setHaltBug (v : Bool) (w : Word) : (s.setHaltBug v).kindAt w = s.kindAt w :=
  State.kindAt_of_regions (by simp) _
@[simp] theorem State.answer_setHaltBug (v : Bool) (w : Word) : (s.setHaltBug v).answer w = s.answer w :=
  State.answer_of (by simp) (by simp) (by simp) (by simp) w
@[simp] theorem State.kindAt_setLocked (v : Bool) (w : Word) : (s.setLocked v).kindAt w = s.kindAt w :=
  State.kindAt_of_regions (by simp) _
@[simp] theorem State.answer_setLocked (v : Bool) (w : Word) : (s.setLocked v).answer w = s.answer w :=
  State.answer_of (by simp) (by simp) (by simp) (by simp) w
@[simp] theorem State.kindAt_setFault (v : FaultRegister) (w : Word) : (s.setFault v).kindAt w = s.kindAt w :=
  State.kindAt_of_regions (by simp) _
@[simp] theorem State.answer_setFault (v : FaultRegister) (w : Word) : (s.setFault v).answer w = s.answer w :=
  State.answer_of (by simp) (by simp) (by simp) (by simp) w
@[simp] theorem State.kindAt_setOpcodeAddr (v : Word) (w : Word) : (s.setOpcodeAddr v).kindAt w = s.kindAt w :=
  State.kindAt_of_regions (by simp) _
@[simp] theorem State.answer_setOpcodeAddr (v : Word) (w : Word) : (s.setOpcodeAddr v).answer w = s.answer w :=
  State.answer_of (by simp) (by simp) (by simp) (by simp) w

/-! ### Pairs as views of their halves (R22) -/

@[simp] theorem highByte_joinBytes (hi lo : Byte) : highByte (joinBytes hi lo) = hi := by
  simp only [highByte, joinBytes]
  apply BitVec.eq_of_getLsbD_eq
  intro i hi'
  simp only [BitVec.getLsbD_extractLsb', BitVec.getLsbD_append, hi', decide_true, Bool.true_and]
  rw [if_neg (by omega)]
  congr 1
  omega

@[simp] theorem lowByte_joinBytes (hi lo : Byte) : lowByte (joinBytes hi lo) = lo := by
  simp only [lowByte, joinBytes]
  apply BitVec.eq_of_getLsbD_eq
  intro i hi'
  simp only [BitVec.getLsbD_extractLsb', BitVec.getLsbD_append, hi', decide_true, Bool.true_and]
  rw [if_pos (by omega)]
  congr 1
  omega

@[simp] theorem joinBytes_high_low (v : Word) : joinBytes (highByte v) (lowByte v) = v := by
  simp only [highByte, lowByte, joinBytes]
  apply BitVec.eq_of_getLsbD_eq
  intro i hi'
  simp only [BitVec.getLsbD_append, BitVec.getLsbD_extractLsb']
  by_cases h : i < 8
  · simp [h]
  · have h2 : i - 8 < 8 := by omega
    simp [h, h2, show 8 + (i - 8) = i by omega]

/-- The value of a joined word. -/
theorem joinBytes_toNat (hi lo : Byte) : (joinBytes hi lo).toNat = 256 * hi.toNat + lo.toNat := by
  simp only [joinBytes, BitVec.toNat_append]
  rw [Nat.shiftLeft_eq, Nat.mul_comm, ← Nat.two_pow_add_eq_or_of_lt lo.isLt]

@[simp] theorem State.hl_setHl (v : Word) : (s.setHl v).hl = v := by simp [State.hl]

@[simp] theorem State.pair_setPair (p : Pair) (v : Word) : (s.setPair p v).pair p = v := by
  cases p <;> simp [State.setPair, State.pair, State.bc, State.de, State.hl]

/-! ### Views under an update of something else -/

@[simp] theorem State.hl_setF (v : Byte) : (s.setF v).hl = s.hl := rfl
@[simp] theorem State.hl_setFlags (fl : Flags) : (s.setFlags fl).hl = s.hl := rfl
@[simp] theorem State.hl_emit (ev : BusEvent) : (s.emit ev).hl = s.hl := rfl
@[simp] theorem State.hl_afterRead (w : Word) : (s.afterRead w).hl = s.hl := rfl
@[simp] theorem State.hl_memRead (w : Word) : ((s.memRead w).2).hl = s.hl := rfl
@[simp] theorem State.hl_memWrite (w : Word) (v : Byte) : (s.memWrite w v).hl = s.hl := rfl
@[simp] theorem State.hl_setMem (m : Memory) : (s.setMem m).hl = s.hl := rfl
@[simp] theorem State.hl_setSp (v : Word) : (s.setSp v).hl = s.hl := rfl
@[simp] theorem State.hl_setPc (v : Word) : (s.setPc v).hl = s.hl := rfl
@[simp] theorem State.hl_setCr (v : Nat) : (s.setCr v).hl = s.hl := rfl
@[simp] theorem State.hl_setIme (v : Bool) : (s.setIme v).hl = s.hl := rfl
@[simp] theorem State.hl_setEiPending (v : Bool) : (s.setEiPending v).hl = s.hl := rfl
@[simp] theorem State.hl_setHalted (v : Bool) : (s.setHalted v).hl = s.hl := rfl
@[simp] theorem State.hl_setStopped (v : Bool) : (s.setStopped v).hl = s.hl := rfl
@[simp] theorem State.hl_setHaltBug (v : Bool) : (s.setHaltBug v).hl = s.hl := rfl
@[simp] theorem State.hl_setLocked (v : Bool) : (s.setLocked v).hl = s.hl := rfl
@[simp] theorem State.hl_setFault (v : FaultRegister) : (s.setFault v).hl = s.hl := rfl
@[simp] theorem State.hl_setOpcodeAddr (v : Word) : (s.setOpcodeAddr v).hl = s.hl := rfl
@[simp] theorem State.flagZ_setReg (r : Reg) (v : Byte) : (s.setReg r v).flagZ = s.flagZ := by simp [State.flagZ]
@[simp] theorem State.flagZ_setHl (v : Word) : (s.setHl v).flagZ = s.flagZ := rfl
@[simp] theorem State.flagZ_setPair (p : Pair) (v : Word) : (s.setPair p v).flagZ = s.flagZ := by simp [State.flagZ]
@[simp] theorem State.flagZ_emit (ev : BusEvent) : (s.emit ev).flagZ = s.flagZ := rfl
@[simp] theorem State.flagZ_afterRead (w : Word) : (s.afterRead w).flagZ = s.flagZ := rfl
@[simp] theorem State.flagZ_memRead (w : Word) : ((s.memRead w).2).flagZ = s.flagZ := rfl
@[simp] theorem State.flagZ_memWrite (w : Word) (v : Byte) : (s.memWrite w v).flagZ = s.flagZ := rfl
@[simp] theorem State.flagZ_setMem (m : Memory) : (s.setMem m).flagZ = s.flagZ := rfl
@[simp] theorem State.flagZ_setSp (v : Word) : (s.setSp v).flagZ = s.flagZ := rfl
@[simp] theorem State.flagZ_setPc (v : Word) : (s.setPc v).flagZ = s.flagZ := rfl
@[simp] theorem State.flagZ_setCr (v : Nat) : (s.setCr v).flagZ = s.flagZ := rfl
@[simp] theorem State.flagZ_setIme (v : Bool) : (s.setIme v).flagZ = s.flagZ := rfl
@[simp] theorem State.flagZ_setEiPending (v : Bool) : (s.setEiPending v).flagZ = s.flagZ := rfl
@[simp] theorem State.flagZ_setHalted (v : Bool) : (s.setHalted v).flagZ = s.flagZ := rfl
@[simp] theorem State.flagZ_setStopped (v : Bool) : (s.setStopped v).flagZ = s.flagZ := rfl
@[simp] theorem State.flagZ_setHaltBug (v : Bool) : (s.setHaltBug v).flagZ = s.flagZ := rfl
@[simp] theorem State.flagZ_setLocked (v : Bool) : (s.setLocked v).flagZ = s.flagZ := rfl
@[simp] theorem State.flagZ_setFault (v : FaultRegister) : (s.setFault v).flagZ = s.flagZ := rfl
@[simp] theorem State.flagZ_setOpcodeAddr (v : Word) : (s.setOpcodeAddr v).flagZ = s.flagZ := rfl
@[simp] theorem State.flagN_setReg (r : Reg) (v : Byte) : (s.setReg r v).flagN = s.flagN := by simp [State.flagN]
@[simp] theorem State.flagN_setHl (v : Word) : (s.setHl v).flagN = s.flagN := rfl
@[simp] theorem State.flagN_setPair (p : Pair) (v : Word) : (s.setPair p v).flagN = s.flagN := by simp [State.flagN]
@[simp] theorem State.flagN_emit (ev : BusEvent) : (s.emit ev).flagN = s.flagN := rfl
@[simp] theorem State.flagN_afterRead (w : Word) : (s.afterRead w).flagN = s.flagN := rfl
@[simp] theorem State.flagN_memRead (w : Word) : ((s.memRead w).2).flagN = s.flagN := rfl
@[simp] theorem State.flagN_memWrite (w : Word) (v : Byte) : (s.memWrite w v).flagN = s.flagN := rfl
@[simp] theorem State.flagN_setMem (m : Memory) : (s.setMem m).flagN = s.flagN := rfl
@[simp] theorem State.flagN_setSp (v : Word) : (s.setSp v).flagN = s.flagN := rfl
@[simp] theorem State.flagN_setPc (v : Word) : (s.setPc v).flagN = s.flagN := rfl
@[simp] theorem State.flagN_setCr (v : Nat) : (s.setCr v).flagN = s.flagN := rfl
@[simp] theorem State.flagN_setIme (v : Bool) : (s.setIme v).flagN = s.flagN := rfl
@[simp] theorem State.flagN_setEiPending (v : Bool) : (s.setEiPending v).flagN = s.flagN := rfl
@[simp] theorem State.flagN_setHalted (v : Bool) : (s.setHalted v).flagN = s.flagN := rfl
@[simp] theorem State.flagN_setStopped (v : Bool) : (s.setStopped v).flagN = s.flagN := rfl
@[simp] theorem State.flagN_setHaltBug (v : Bool) : (s.setHaltBug v).flagN = s.flagN := rfl
@[simp] theorem State.flagN_setLocked (v : Bool) : (s.setLocked v).flagN = s.flagN := rfl
@[simp] theorem State.flagN_setFault (v : FaultRegister) : (s.setFault v).flagN = s.flagN := rfl
@[simp] theorem State.flagN_setOpcodeAddr (v : Word) : (s.setOpcodeAddr v).flagN = s.flagN := rfl
@[simp] theorem State.flagH_setReg (r : Reg) (v : Byte) : (s.setReg r v).flagH = s.flagH := by simp [State.flagH]
@[simp] theorem State.flagH_setHl (v : Word) : (s.setHl v).flagH = s.flagH := rfl
@[simp] theorem State.flagH_setPair (p : Pair) (v : Word) : (s.setPair p v).flagH = s.flagH := by simp [State.flagH]
@[simp] theorem State.flagH_emit (ev : BusEvent) : (s.emit ev).flagH = s.flagH := rfl
@[simp] theorem State.flagH_afterRead (w : Word) : (s.afterRead w).flagH = s.flagH := rfl
@[simp] theorem State.flagH_memRead (w : Word) : ((s.memRead w).2).flagH = s.flagH := rfl
@[simp] theorem State.flagH_memWrite (w : Word) (v : Byte) : (s.memWrite w v).flagH = s.flagH := rfl
@[simp] theorem State.flagH_setMem (m : Memory) : (s.setMem m).flagH = s.flagH := rfl
@[simp] theorem State.flagH_setSp (v : Word) : (s.setSp v).flagH = s.flagH := rfl
@[simp] theorem State.flagH_setPc (v : Word) : (s.setPc v).flagH = s.flagH := rfl
@[simp] theorem State.flagH_setCr (v : Nat) : (s.setCr v).flagH = s.flagH := rfl
@[simp] theorem State.flagH_setIme (v : Bool) : (s.setIme v).flagH = s.flagH := rfl
@[simp] theorem State.flagH_setEiPending (v : Bool) : (s.setEiPending v).flagH = s.flagH := rfl
@[simp] theorem State.flagH_setHalted (v : Bool) : (s.setHalted v).flagH = s.flagH := rfl
@[simp] theorem State.flagH_setStopped (v : Bool) : (s.setStopped v).flagH = s.flagH := rfl
@[simp] theorem State.flagH_setHaltBug (v : Bool) : (s.setHaltBug v).flagH = s.flagH := rfl
@[simp] theorem State.flagH_setLocked (v : Bool) : (s.setLocked v).flagH = s.flagH := rfl
@[simp] theorem State.flagH_setFault (v : FaultRegister) : (s.setFault v).flagH = s.flagH := rfl
@[simp] theorem State.flagH_setOpcodeAddr (v : Word) : (s.setOpcodeAddr v).flagH = s.flagH := rfl
@[simp] theorem State.flagC_setReg (r : Reg) (v : Byte) : (s.setReg r v).flagC = s.flagC := by simp [State.flagC]
@[simp] theorem State.flagC_setHl (v : Word) : (s.setHl v).flagC = s.flagC := rfl
@[simp] theorem State.flagC_setPair (p : Pair) (v : Word) : (s.setPair p v).flagC = s.flagC := by simp [State.flagC]
@[simp] theorem State.flagC_emit (ev : BusEvent) : (s.emit ev).flagC = s.flagC := rfl
@[simp] theorem State.flagC_afterRead (w : Word) : (s.afterRead w).flagC = s.flagC := rfl
@[simp] theorem State.flagC_memRead (w : Word) : ((s.memRead w).2).flagC = s.flagC := rfl
@[simp] theorem State.flagC_memWrite (w : Word) (v : Byte) : (s.memWrite w v).flagC = s.flagC := rfl
@[simp] theorem State.flagC_setMem (m : Memory) : (s.setMem m).flagC = s.flagC := rfl
@[simp] theorem State.flagC_setSp (v : Word) : (s.setSp v).flagC = s.flagC := rfl
@[simp] theorem State.flagC_setPc (v : Word) : (s.setPc v).flagC = s.flagC := rfl
@[simp] theorem State.flagC_setCr (v : Nat) : (s.setCr v).flagC = s.flagC := rfl
@[simp] theorem State.flagC_setIme (v : Bool) : (s.setIme v).flagC = s.flagC := rfl
@[simp] theorem State.flagC_setEiPending (v : Bool) : (s.setEiPending v).flagC = s.flagC := rfl
@[simp] theorem State.flagC_setHalted (v : Bool) : (s.setHalted v).flagC = s.flagC := rfl
@[simp] theorem State.flagC_setStopped (v : Bool) : (s.setStopped v).flagC = s.flagC := rfl
@[simp] theorem State.flagC_setHaltBug (v : Bool) : (s.setHaltBug v).flagC = s.flagC := rfl
@[simp] theorem State.flagC_setLocked (v : Bool) : (s.setLocked v).flagC = s.flagC := rfl
@[simp] theorem State.flagC_setFault (v : FaultRegister) : (s.setFault v).flagC = s.flagC := rfl
@[simp] theorem State.flagC_setOpcodeAddr (v : Word) : (s.setOpcodeAddr v).flagC = s.flagC := rfl

/-! ### Flags after an update -/

/-- The packed byte gives each flag back, and its low nibble is 0 (R23). -/
theorem Flags.pack_bits (fl : Flags) :
    fl.pack.getLsbD 7 = fl.z ∧ fl.pack.getLsbD 6 = fl.n ∧ fl.pack.getLsbD 5 = fl.h ∧ fl.pack.getLsbD 4 = fl.c ∧
      fl.pack &&& 0xF0#8 = fl.pack ∧ fl.pack &&& 0x0F#8 = 0#8 := by
  obtain ⟨z, n, h, c⟩ := fl
  revert z n h c
  decide

@[simp] theorem State.flagZ_setFlags (fl : Flags) : (s.setFlags fl).flagZ = fl.z := by
  simp only [State.flagZ, State.setFlags_f, fl.pack_bits.2.2.2.2.1, fl.pack_bits.1]
@[simp] theorem State.flagN_setFlags (fl : Flags) : (s.setFlags fl).flagN = fl.n := by
  simp only [State.flagN, State.setFlags_f, fl.pack_bits.2.2.2.2.1, fl.pack_bits.2.1]
@[simp] theorem State.flagH_setFlags (fl : Flags) : (s.setFlags fl).flagH = fl.h := by
  simp only [State.flagH, State.setFlags_f, fl.pack_bits.2.2.2.2.1, fl.pack_bits.2.2.1]
@[simp] theorem State.flagC_setFlags (fl : Flags) : (s.setFlags fl).flagC = fl.c := by
  simp only [State.flagC, State.setFlags_f, fl.pack_bits.2.2.2.2.1, fl.pack_bits.2.2.2.1]

/-- Every write of F leaves its low nibble 0 (R23). -/
@[simp] theorem lowNibble_masked (v : Byte) : v &&& 0xF0#8 &&& 0x0F#8 = 0#8 := by
  rw [BitVec.and_assoc]
  simp

end Sys2Proof.Machine
end

