-- ==== Sys2Proof/Laws/Memory.lean ====
section
/-! SUPPORT. The laws of memory: read after write, and every write keeps the canonical form. -/

namespace Sys2Proof.Machine

/-- An address below every listed one is not listed. -/
theorem Memory.read_of_lt {m : Memory} {lo a : Nat} (h : Memory.wfFrom lo m = true) (ha : a < lo) :
    Memory.read m a = unlistedByte := by
  induction m generalizing lo with
  | nil => rfl
  | cons c m ih =>
    obtain ⟨k, v⟩ := c
    simp only [Memory.wfFrom, Bool.and_eq_true, decide_eq_true_eq] at h
    obtain ⟨⟨⟨hlo, -⟩, -⟩, hm⟩ := h
    have hk : k ≠ a := by omega
    simp only [Memory.read, if_neg hk]
    exact ih hm (by omega)

/-- A write leaves every other address alone, in any list. -/
theorem Memory.read_write_other (m : Memory) {a b : Nat} (v : Byte) (h : b ≠ a) :
    Memory.read (Memory.write m a v) b = Memory.read m b := by
  induction m with
  | nil =>
    unfold Memory.write
    split
    · rfl
    · simp [Memory.read, Ne.symm h]
  | cons c m ih =>
    obtain ⟨k, w⟩ := c
    unfold Memory.write
    split
    · split
      · rfl
      · simp [Memory.read, Ne.symm h]
    · split
      · next ha =>
        subst ha
        split <;> simp [Memory.read, Ne.symm h]
      · simp only [Memory.read, ih]

/-- A byte written to a canonical memory is the byte read there. -/
theorem Memory.read_write_same {m : Memory} {lo a : Nat} (v : Byte) (h : Memory.wfFrom lo m = true) :
    Memory.read (Memory.write m a v) a = v := by
  induction m generalizing lo with
  | nil =>
    unfold Memory.write
    split
    · next hv => rw [hv]; rfl
    · simp [Memory.read]
  | cons c m ih =>
    obtain ⟨k, w⟩ := c
    simp only [Memory.wfFrom, Bool.and_eq_true, decide_eq_true_eq] at h
    obtain ⟨⟨⟨hlo, hk⟩, hw⟩, hm⟩ := h
    unfold Memory.write
    split
    · next ha =>
      split
      · next hv =>
        rw [hv]
        simp only [Memory.read, if_neg (show k ≠ a by omega)]
        exact Memory.read_of_lt hm (by omega)
      · simp [Memory.read]
    · split
      · next ha =>
        subst ha
        split
        · next hv =>
          rw [hv]
          exact Memory.read_of_lt hm (by omega)
        · simp [Memory.read]
      · next ha =>
        simp only [Memory.read, if_neg (show k ≠ a by omega)]
        exact ih hm

/-- A write at an address of the space keeps the canonical form. -/
theorem Memory.wfFrom_write {m : Memory} {lo a : Nat} (v : Byte) (h : Memory.wfFrom lo m = true) (hlo : lo ≤ a)
    (ha : a < 65536) : Memory.wfFrom lo (Memory.write m a v) = true := by
  induction m generalizing lo with
  | nil =>
    unfold Memory.write
    split
    · rfl
    · next hv => simp [Memory.wfFrom, hlo, ha, hv]
  | cons c m ih =>
    obtain ⟨k, w⟩ := c
    have hc := h
    simp only [Memory.wfFrom, Bool.and_eq_true, decide_eq_true_eq] at hc
    obtain ⟨⟨⟨hk0, hk⟩, hw⟩, hm⟩ := hc
    unfold Memory.write
    split
    · next hak =>
      split
      · exact h
      · next hv =>
        simp [Memory.wfFrom, hlo, ha, hv, hk, hm, show a + 1 ≤ k by omega] at hw ⊢
        exact hw
    · split
      · next hak =>
        subst hak
        split
        · have : ∀ (m : Memory) (x y : Nat), x ≤ y → Memory.wfFrom y m = true → Memory.wfFrom x m = true := by
            intro m x y hxy hm
            cases m with
            | nil => rfl
            | cons c m =>
              simp only [Memory.wfFrom, Bool.and_eq_true, decide_eq_true_eq] at hm ⊢
              exact ⟨⟨⟨by omega, hm.1.1.2⟩, hm.1.2⟩, hm.2⟩
          exact this _ _ _ (by omega) hm
        · next hv => simp [Memory.wfFrom, hlo, ha, hv, hm]
      · next hne =>
        simp only [Memory.wfFrom, Bool.and_eq_true, decide_eq_true_eq]
        exact ⟨⟨⟨hk0, hk⟩, hw⟩, ih hm (by omega)⟩

/-- Every memory write of the machine keeps the canonical form: an address is a 16-bit word. -/
theorem Memory.wf_write {m : Memory} (a : Word) (v : Byte) (h : m.wf = true) :
    (Memory.write m a.toNat v).wf = true :=
  Memory.wfFrom_write v h (Nat.zero_le _) a.isLt

/-- Reset's memory is canonical. -/
theorem Memory.wf_nil : Memory.wf [] = true := rfl

/-! ## The machine's writes (R52) -/

theorem State.memAfterWrite_ram {s : State} {w : Word} (v : Byte) (h : s.kindAt w = .ram) :
    s.memAfterWrite w v = Memory.write s.mem w.toNat v :=
  if_pos h

theorem State.memAfterWrite_not_ram {s : State} {w : Word} (v : Byte) (h : s.kindAt w ≠ .ram) :
    s.memAfterWrite w v = s.mem :=
  if_neg h

/-- A write leaves every other byte as it was, whatever the behaviour at its address. -/
theorem State.peek_memWrite_other (s : State) {w w' : Word} (v : Byte) (h : w' ≠ w) :
    (s.memWrite w v).peek w' = s.peek w' := by
  by_cases hk : s.kindAt w = .ram
  · simp only [State.peek, State.memWrite_mem, State.memAfterWrite_ram v hk]
    exact Memory.read_write_other s.mem v (fun e => h (BitVec.eq_of_toNat_eq e))
  · simp only [State.peek, State.memWrite_mem, State.memAfterWrite_not_ram v hk]

/-- In a canonical memory, a byte written to `ram` is the byte held there. -/
theorem State.peek_memWrite_same {s : State} (w : Word) (v : Byte) (h : s.mem.wf = true) (hk : s.kindAt w = .ram) :
    (s.memWrite w v).peek w = v := by
  simp only [State.peek, State.memWrite_mem, State.memAfterWrite_ram v hk]
  exact Memory.read_write_same v h

/-- A write that is not stored changes no byte. -/
theorem State.peek_memWrite_not_ram {s : State} {w : Word} (v : Byte) (hk : s.kindAt w ≠ .ram) (w' : Word) :
    (s.memWrite w v).peek w' = s.peek w' := by
  simp only [State.peek, State.memWrite_mem, State.memAfterWrite_not_ram v hk]

theorem State.wf_memWrite {s : State} (w : Word) (v : Byte) (h : s.mem.wf = true) : (s.memWrite w v).mem.wf = true := by
  rw [State.memWrite_mem, State.memAfterWrite]
  split
  · exact Memory.wf_write w v h
  · exact h

end Sys2Proof.Machine
end

