-- ==== Sys2Proof/Laws/Frames.lean ====
section
/-! SUPPORT. The terms of the claims (Safety) met by the operations: what one store and two stores change, which
transactions a few accesses are, and what a push, a pop, an interrupt entry, an ALU operation and a flag write do, whole. -/

namespace Sys2Proof.Machine

/-! ## Stores -/

/-- One byte stored. -/
theorem State.storesOnly_memWrite {s t : State} {a : Word} {v : Byte} (h : t.mem = (s.memWrite a v).mem) :
    State.StoresOnly [(a, v)] s t := by
  refine ⟨fun b hb => ?_, fun hwf w hw hk => ?_⟩
  · rw [State.peek_of_mem h]
    by_cases hba : b = a
    · subst hba
      exact State.peek_memWrite_not_ram v (by simpa using hb) b
    · exact State.peek_memWrite_other s v hba
  · obtain rfl : w = (a, v) := by simpa using hw
    rw [State.peek_of_mem h]
    exact State.peek_memWrite_same a v hwf hk

/-- Two bytes stored, one after the other, at different addresses. -/
theorem State.storesOnly_two {s t : State} {a b : Word} {v w : Byte} (hab : a ≠ b)
    (h : t.mem = ((s.memWrite a v).memWrite b w).mem) : State.StoresOnly [(a, v), (b, w)] s t := by
  have ha := State.storesOnly_memWrite (s := s) (a := a) (v := v) rfl
  have hb := State.storesOnly_memWrite (s := s.memWrite a v) (a := b) (v := w) rfl
  simp only [State.StoresOnly, State.kindAt_memWrite, List.map_cons, List.map_nil, List.mem_cons, List.not_mem_nil, or_false,
    not_or, forall_eq, forall_eq_or_imp] at ha hb ⊢
  refine ⟨fun x hx => ?_, fun hwf => ⟨fun hk => ?_, fun hk => ?_⟩⟩
  · rw [State.peek_of_mem h, hb.1 x (hx.imp And.right id), ha.1 x (hx.imp And.left id)]
  · rw [State.peek_of_mem h, hb.1 a (.inl hab), ha.2 hwf hk]
  · rw [State.peek_of_mem h, hb.2 (State.wf_memWrite a v hwf) hk]

/-- What is stored depends, of the state before, on memory and its behaviour alone. -/
theorem State.StoresOnly.congr {ws : List (Word × Byte)} {s s' t : State} (h : State.StoresOnly ws s t)
    (hm : s'.mem = s.mem) (hr : s'.regions = s.regions) : State.StoresOnly ws s' t := by
  simpa only [State.StoresOnly, State.kindAt_of_regions hr, State.peek_of_mem hm, hm] using h

/-! ## Transactions (R60, R62) -/

@[simp] theorem State.externalReads_nil (s : State) : s.externalReads [] = 0 := rfl

@[simp] theorem State.externalReads_read (s : State) (a : Word) (v : Byte) (evs : List BusEvent) :
    s.externalReads (.read a v :: evs) = s.externalReads evs + if s.kindAt a = .external then 1 else 0 := by
  simp [State.externalReads, List.countP_cons]

@[simp] theorem State.externalReads_write (s : State) (a : Word) (v : Byte) (evs : List BusEvent) :
    s.externalReads (.write a v :: evs) = s.externalReads evs := by
  simp [State.externalReads]

@[simp] theorem State.externalReads_irqAck (s : State) (n : Fin 5) (evs : List BusEvent) :
    s.externalReads (.irqAck n :: evs) = s.externalReads evs := by
  simp [State.externalReads]

/-- A read of `a` takes one answer of the host, if `a` is external. -/
theorem State.answersAfter_drop (s : State) (a : Word) :
    s.answersAfter a = s.answers.drop (if s.kindAt a = .external then 1 else 0) := by
  simp only [State.answersAfter]
  split <;> simp

/-- The same, counted as transactions. -/
theorem State.answersAfter_eq (s : State) (a : Word) (v : Byte) :
    s.answersAfter a = s.answers.drop (s.externalReads [.read a v]) := by
  simp [State.answersAfter_drop]

theorem State.externalReads_append (s : State) (xs ys : List BusEvent) :
    s.externalReads (xs ++ ys) = s.externalReads xs + s.externalReads ys :=
  List.countP_append

theorem State.externalReads_of_regions {s t : State} (h : t.regions = s.regions) (evs : List BusEvent) :
    t.externalReads evs = s.externalReads evs := by
  simp only [State.externalReads, State.kindAt_of_regions h]

/-- Nothing on the ports. -/
theorem State.transacts_none {s t : State} (ht : t.trace = s.trace) (ha : t.answers = s.answers) : State.Transacts [] s t :=
  ⟨ht, ha⟩

/-- One access after another. -/
theorem State.Transacts.trans {xs ys : List BusEvent} {s t u : State} (h1 : State.Transacts xs s t)
    (h2 : State.Transacts ys t u) (hr : t.regions = s.regions) : State.Transacts (xs ++ ys) s u := by
  obtain ⟨ht, ha⟩ := h1
  obtain ⟨hu, hb⟩ := h2
  refine ⟨?_, ?_⟩
  · rw [hu, ht, List.reverse_append, List.append_assoc]
  · rw [hb, ha, List.drop_drop, State.externalReads_append, State.externalReads_of_regions hr]

/-- Which transactions were made depends on the trace and the answers alone. -/
theorem State.Transacts.congr {evs : List BusEvent} {s s' t t' : State} (h : State.Transacts evs s t)
    (hst : s'.trace = s.trace) (hsa : s'.answers = s.answers) (hsr : s'.regions = s.regions) (htt : t'.trace = t.trace)
    (hta : t'.answers = t.answers) : State.Transacts evs s' t' := by
  simpa only [State.Transacts, hst, hsa, htt, hta, State.externalReads_of_regions hsr] using h

theorem State.transacts_afterRead (s : State) (a : Word) : State.Transacts [.read a (s.answer a)] s (s.afterRead a) :=
  ⟨rfl, s.answersAfter_eq a _⟩

theorem State.transacts_memWrite (s : State) (a : Word) (v : Byte) : State.Transacts [.write a v] s (s.memWrite a v) :=
  ⟨rfl, rfl⟩

/-- One read. -/
theorem State.transacts_read {s t : State} {a : Word} (ht : t.trace = (s.afterRead a).trace)
    (ha : t.answers = (s.afterRead a).answers) : State.Transacts [.read a (s.answer a)] s t :=
  (s.transacts_afterRead a).congr rfl rfl rfl ht ha

/-- One write. -/
theorem State.transacts_write {s t : State} {a : Word} {v : Byte} (ht : t.trace = .write a v :: s.trace)
    (ha : t.answers = s.answers) : State.Transacts [.write a v] s t :=
  (s.transacts_memWrite a v).congr rfl rfl rfl ht ha

/-- Two writes. -/
theorem State.transacts_two_writes {s t : State} {a b : Word} {v w : Byte}
    (ht : t.trace = .write b w :: .write a v :: s.trace) (ha : t.answers = s.answers) :
    State.Transacts [.write a v, .write b w] s t :=
  ⟨ht, ha⟩

/-- A read, and then a write. -/
theorem State.transacts_read_write {s t : State} {a b : Word} {w : Byte}
    (ht : t.trace = .write b w :: (s.afterRead a).trace) (ha : t.answers = (s.afterRead a).answers) :
    State.Transacts [.read a (s.answer a), .write b w] s t :=
  (s.transacts_afterRead a).trans (State.transacts_write ht ha) rfl

/-- Two reads. -/
theorem State.transacts_two_reads {s t : State} {a b : Word} (ht : t.trace = ((s.afterRead a).afterRead b).trace)
    (ha : t.answers = ((s.afterRead a).afterRead b).answers) :
    State.Transacts [.read a (s.answer a), .read b ((s.afterRead a).answer b)] s t :=
  (s.transacts_afterRead a).trans (State.transacts_read ht ha) rfl

/-! ## Addresses -/

/-- A word and the one after it are two addresses (R57). -/
theorem ne_add_one (a : Word) : a ≠ a + 1#16 := by
  intro h
  have := congrArg BitVec.toNat h
  have ha := a.isLt
  simp [BitVec.toNat_add] at this
  omega

/-- The two bytes of a push lie at two addresses (R58). -/
theorem sub_one_ne_sub_two (a : Word) : a - 1#16 ≠ a - 2#16 := by
  intro h
  have := congrArg BitVec.toNat h
  have ha := a.isLt
  simp [BitVec.toNat_sub] at this
  omega

theorem sub_one_sub_one (a : Word) : a - 1#16 - 1#16 = a - 2#16 := by
  rw [BitVec.sub_sub]
  rfl

theorem add_one_add_one (a : Word) : a + 1#16 + 1#16 = a + 2#16 := by
  rw [BitVec.add_assoc]
  rfl

/-! ## Push and pop (R58, R59) -/

/-- A push is two writes and SP two lower. -/
theorem State.push16_eq (s : State) (v : Word) :
    s.push16 v = (((s.setSp (s.sp - 2#16)).memWrite (s.sp - 1#16) (highByte v)).memWrite (s.sp - 2#16) (lowByte v)) := by
  simp only [State.push16, State.setSp_sp, State.memWrite_sp, sub_one_sub_one]
  rfl

/-- A push stores the high byte at SP - 1 and the low byte at SP - 2, and nothing else. -/
theorem State.storesOnly_push16 {s t : State} {v : Word} (h : t.mem = (s.push16 v).mem) :
    State.StoresOnly [(s.sp - 1#16, highByte v), (s.sp - 2#16, lowByte v)] s t := by
  apply State.storesOnly_two (sub_one_ne_sub_two s.sp)
  rw [h, State.push16_eq]
  rfl

/-- A push makes its two writes. -/
theorem State.transacts_push16 {s t : State} {v : Word} (ht : t.trace = (s.push16 v).trace)
    (ha : t.answers = (s.push16 v).answers) :
    State.Transacts [.write (s.sp - 1#16) (highByte v), .write (s.sp - 2#16) (lowByte v)] s t := by
  rw [State.push16_eq] at ht ha
  exact State.transacts_two_writes ht ha

/-- A pop is two reads and SP two higher. -/
theorem State.pop16_eq (s : State) :
    s.pop16 = (joinBytes s.popped.2 s.popped.1, ((s.afterRead s.sp).afterRead (s.sp + 1#16)).setSp (s.sp + 2#16)) := by
  simp only [State.pop16, State.memRead, State.setSp_sp, State.answer_setSp, State.popped, add_one_add_one]
  rfl

/-- A pop makes its two reads. -/
theorem State.transacts_pop16 {s t : State} (ht : t.trace = s.pop16.2.trace) (ha : t.answers = s.pop16.2.answers) :
    State.Transacts [.read s.sp s.popped.1, .read (s.sp + 1#16) s.popped.2] s t := by
  rw [State.pop16_eq] at ht ha
  exact State.transacts_two_reads ht ha

/-! ## Interrupt entry (R309) -/

/-- An interrupt entry: IME and `ei_pending` cleared, PC pushed, the vector, the acknowledgement, 20 ticks. -/
theorem State.interruptEntry_eq (s : State) (n : Fin 5) :
    s.interruptEntry n = (((((((s.setIme false).setEiPending false).setSp (s.sp - 2#16)).memWrite (s.sp - 1#16)
      (highByte s.pc)).memWrite (s.sp - 2#16) (lowByte s.pc)).setPc (interruptVector n)).emit (.irqAck n)).setCr 20 := by
  simp only [State.interruptEntry, State.push16_eq, State.setEiPending_sp, State.setIme_sp, State.setEiPending_pc,
    State.setIme_pc]

/-! ## The ALU operations (R150) -/

/-- An ALU operation writes A (all but CP) and F, and nothing else. -/
theorem State.alu_eq (s : State) (op : AluOp) (v : Byte) :
    s.alu op v = (if aluWritesA op then s.setReg .a (aluResult op s.a v s.flagC).value else s).setFlags
      (aluResult op s.a v s.flagC).flags := by
  unfold State.alu
  split <;> simp [*]

/-! ## Flags -/

/-- A flag write leaves exactly these flags, its low nibble 0 (R23). -/
theorem State.flagsAre_of_f {t : State} {fl : Flags} (h : t.f = fl.pack &&& 0xF0#8) :
    t.FlagsAre fl.z fl.n fl.h fl.c := by
  obtain ⟨hz, hn, hh, hc, hp, hl⟩ := fl.pack_bits
  simp only [State.FlagsAre, State.flagZ, State.flagN, State.flagH, State.flagC, h, hp]
  exact ⟨hz, hn, hh, hc, hl⟩

end Sys2Proof.Machine
end

