-- ==== Sys2Proof/Laws/Step.lean ====
section
/-! SUPPORT. Fetching and the sequencer: what a fetch reads and leaves, what a decoder takes from the three bytes at PC, and the
ways a tick can go, each once. -/

namespace Sys2Proof.Machine

/-! ## Fetching (R83, R89, R60) -/

/-- What a read leaves depends, for the next read, on memory, its behaviour, the host's answers and the trace. -/
theorem State.afterRead_of {s t : State} (hm : t.mem = s.mem) (hr : t.regions = s.regions) (ha : t.answers = s.answers)
    (ht : t.trace = s.trace) (a : Word) :
    (t.afterRead a).answers = (s.afterRead a).answers ∧ (t.afterRead a).trace = (s.afterRead a).trace := by
  simp only [State.afterRead_answers, State.afterRead_trace, State.answer_of hm hr ha ht, State.answersAfter,
    State.kindAt_of_regions hr, ha, ht, and_self]

/-- So do the bytes and the transactions of reads in a row. -/
theorem State.stream_of {s t : State} (hm : t.mem = s.mem) (hr : t.regions = s.regions) (ha : t.answers = s.answers)
    (ht : t.trace = s.trace) (a : Word) (n : Nat) :
    t.stream a n = s.stream a n ∧ t.readEvents a n = s.readEvents a n := by
  induction n generalizing s t a with
  | zero => exact ⟨rfl, rfl⟩
  | succ n ih =>
    obtain ⟨h1, h2⟩ := State.afterRead_of hm hr ha ht a
    obtain ⟨i1, i2⟩ := ih (s := s.afterRead a) (t := t.afterRead a) hm hr h1 h2 (a + 1#16)
    simp only [State.stream, State.readEvents, State.answer_of hm hr ha ht, i1, i2, and_self]

/-- Fewer reads in a row give the first of the bytes. -/
theorem State.stream_take (s : State) (a : Word) {n m : Nat} (h : n ≤ m) : (s.stream a m).take n = s.stream a n := by
  induction n generalizing s a m with
  | zero => rfl
  | succ n ih =>
    obtain ⟨m, rfl⟩ := Nat.exists_eq_add_of_le' (show 1 ≤ m by omega)
    simp only [State.stream, List.take_succ_cons, ih (s.afterRead a) (a + 1#16) (show n ≤ m by omega)]

/-- The host's answers after reads in a row, the first of them apart. -/
theorem State.drop_readEvents (s : State) (a b : Word) (n : Nat) :
    (s.answersAfter a).drop (s.externalReads ((s.afterRead a).readEvents b n)) =
      s.answers.drop (s.externalReads (.read a (s.answer a) :: (s.afterRead a).readEvents b n)) := by
  rw [s.answersAfter_eq a (s.answer a), List.drop_drop, ← State.externalReads_append, List.singleton_append]

/-- `n` operand fetches: the bytes read from PC on, PC `n` further, one read a byte. -/
theorem State.fetchBytes_eq (s : State) (n : Nat) :
    s.fetchBytes n = (s.stream s.pc n,
      { s with
        pc := s.pc + BitVec.ofNat 16 n
        answers := s.answers.drop (s.externalReads (s.readEvents s.pc n))
        trace := (s.readEvents s.pc n).reverse ++ s.trace }) := by
  induction n generalizing s with
  | zero => simp [State.fetchBytes, State.stream, State.readEvents, State.externalReads]
  | succ n ih =>
    have hpc : s.pc + 1#16 + BitVec.ofNat 16 n = s.pc + BitVec.ofNat 16 (n + 1) := by
      rw [BitVec.add_assoc, BitVec.ofNat_add, BitVec.add_comm 1#16]
    have e : s.fetch8 = (s.answer s.pc, (s.afterRead s.pc).setPc (s.pc + 1#16)) := rfl
    obtain ⟨h1, h2⟩ := State.stream_of (s := s.afterRead s.pc) (t := (s.afterRead s.pc).setPc (s.pc + 1#16)) rfl rfl rfl rfl
      (s.pc + 1#16) n
    simp only [State.fetchBytes, e, ih, State.setPc_pc, h1, h2, State.stream, State.readEvents, List.reverse_cons,
      List.append_assoc, List.singleton_append, hpc, ← State.drop_readEvents]
    rfl

/-- The opcode fetch without the halt bug: one operand fetch, and `opaddr` recorded. -/
theorem State.fetchOpcode_eq {s : State} (h : s.haltBug = false) :
    s.fetchOpcode = (s.answer s.pc, ((s.afterRead s.pc).setOpcodeAddr s.pc).setPc (s.pc + 1#16)) := by
  unfold State.fetchOpcode
  simp only [State.setOpcodeAddr_haltBug, h, Bool.false_eq_true, if_false]
  rfl

/-- The opcode fetch after the halt bug: PC stays. -/
theorem State.fetchOpcode_haltBug {s : State} (h : s.haltBug = true) :
    s.fetchOpcode = (s.answer s.pc, ((s.afterRead s.pc).setOpcodeAddr s.pc).setHaltBug false) := by
  unfold State.fetchOpcode
  simp only [State.setOpcodeAddr_haltBug, h, if_true]
  rfl

/-- Every opcode asks for one to three bytes (R80). -/
theorem instrLength_bounds (op : Byte) : 1 ≤ instrLength op ∧ instrLength op ≤ 3 := by
  unfold instrLength
  split <;> decide

/-- An instruction fetch: as many bytes as the opcode asks for, PC past them, one read a byte in order. -/
theorem State.fetchInstr_eq {s : State} (h : s.haltBug = false) :
    s.fetchInstr = (s.stream s.pc (instrLength (s.answer s.pc)), { s with
      opcodeAddr := s.pc
      pc := s.pc + BitVec.ofNat 16 (instrLength (s.answer s.pc))
      answers := s.answers.drop (s.externalReads (s.readEvents s.pc (instrLength (s.answer s.pc))))
      trace := (s.readEvents s.pc (instrLength (s.answer s.pc))).reverse ++ s.trace }) := by
  obtain ⟨n, hn⟩ : ∃ n, instrLength (s.answer s.pc) = n + 1 :=
    Nat.exists_eq_add_of_le' (instrLength_bounds (s.answer s.pc)).1
  have hpc : s.pc + 1#16 + BitVec.ofNat 16 n = s.pc + BitVec.ofNat 16 (n + 1) := by
    rw [BitVec.add_assoc, BitVec.ofNat_add, BitVec.add_comm 1#16]
  obtain ⟨h1, h2⟩ := State.stream_of (s := s.afterRead s.pc)
    (t := ((s.afterRead s.pc).setOpcodeAddr s.pc).setPc (s.pc + 1#16)) rfl rfl rfl rfl (s.pc + 1#16) n
  simp only [State.fetchInstr, State.fetchOpcode_eq h, State.fetchBytes_eq, State.setPc_pc, hn, Nat.add_sub_cancel, h1, h2, hpc, State.stream,
    State.readEvents, List.reverse_cons, List.append_assoc, List.singleton_append, ← State.drop_readEvents]
  rfl

/-- An instruction fetch after the halt bug: the byte at PC is read twice, as the opcode and as the first operand byte (R83,
R281). -/
theorem State.fetchInstr_haltBug {s : State} (h : s.haltBug = true) :
    let n := instrLength (s.answer s.pc) - 1
    let evs := .read s.pc (s.answer s.pc) :: (s.afterRead s.pc).readEvents s.pc n
    s.fetchInstr = (s.answer s.pc :: (s.afterRead s.pc).stream s.pc n, { s with
      opcodeAddr := s.pc
      haltBug := false
      pc := s.pc + BitVec.ofNat 16 n
      answers := s.answers.drop (s.externalReads evs)
      trace := evs.reverse ++ s.trace }) := by
  intro n evs
  obtain ⟨h1, h2⟩ := State.stream_of (s := s.afterRead s.pc)
    (t := ((s.afterRead s.pc).setOpcodeAddr s.pc).setHaltBug false) rfl rfl rfl rfl s.pc n
  simp only [State.fetchInstr, State.fetchOpcode_haltBug h, State.fetchBytes_eq, State.setHaltBug_pc,
    State.setOpcodeAddr_pc, State.afterRead_pc, evs, n, h1, h2, List.reverse_cons,
    List.append_assoc, List.singleton_append, ← State.drop_readEvents]
  rfl

/-- A decoder looks at no byte after the instruction's own: three bytes are enough, and what is left of them tells the length. -/
theorem decode_three {op b1 b2 : Byte} {i : Instr} {rest : List Byte} (h : decode [op, b1, b2] = .ok (i, rest)) :
    3 - rest.length = instrLength op ∧ decode ([op, b1, b2].take (instrLength op)) = .ok (i, []) := by
  unfold decode at h
  unfold instrLength
  split at h
  · contradiction
  · next op' tl heq =>
    obtain ⟨rfl, rfl⟩ := List.cons.inj heq
    cases hb : decodeBase op with
    | bare j =>
      simp only [hb, Except.ok.injEq, Prod.mk.injEq] at h
      obtain ⟨rfl, rfl⟩ := h
      simp [decode, hb]
    | imm8 k =>
      simp only [hb, Except.ok.injEq, Prod.mk.injEq] at h
      obtain ⟨rfl, rfl⟩ := h
      simp [decode, hb]
    | imm16 k =>
      simp only [hb, Except.ok.injEq, Prod.mk.injEq] at h
      obtain ⟨rfl, rfl⟩ := h
      simp [decode, hb]
    | extended =>
      simp only [hb, Except.ok.injEq, Prod.mk.injEq] at h
      obtain ⟨rfl, rfl⟩ := h
      simp [decode, hb]

/-! ## The ways a tick can go (R81, R82) -/

/-- The input levels of a tick change the two levels and the schedule, nothing else. -/
theorem State.sampleInputs_eq (s : State) :
    s.sampleInputs = { s with
      irqReq := s.sampleInputs.irqReq, stopWake := s.sampleInputs.stopWake, inputs := s.sampleInputs.inputs } := by
  unfold State.sampleInputs
  split <;> rfl

theorem step_dead {s : State} (h : s.dead = true) : step s = .next s := by
  simp only [step, tick, h, if_true]

theorem step_busy {s : State} (hd : s.dead = false) (h : 1 < s.cr) : step s = .next s.countDown := by
  have hc : s.countDown.cr > 0 := by
    simp only [State.countDown, State.setCr_cr]
    rw [State.sampleInputs_eq]
    simp only
    omega
  simp only [step, tick, hd, hc, if_true]
  rfl

theorem step_boundary {s : State} (hd : s.dead = false) (h : s.cr ≤ 1) : step s = boundary s.countDown := by
  have hc : ¬ s.countDown.cr > 0 := by
    simp only [State.countDown, State.setCr_cr]
    rw [State.sampleInputs_eq]
    simp only
    omega
  simp only [step, tick, hd, hc, if_false]
  rfl

end Sys2Proof.Machine
end

