-- ==== Sys2Proof/Tests/Slice0.lean ====
section
/-! SUPPORT. Tests: the syntax check, every row of the opcode table decoded from its own word, the spec's vectors (95, part 2) and
ticks of its sequences (part 3), and a witness for every claim that has hypotheses. Expected values are the spec's, never the
model's own answer. -/

namespace Sys2Proof.Tests

open Sys2Proof.Machine

/-! ## The syntax check -/

/-- R88: the prefix alone is no instruction. -/
theorem test_prefix_is_ill_formed : (Instr.prefixCb 0x37#8).wellFormed = false := rfl

theorem test_halt_is_well_formed : Instr.halt.wellFormed = true := rfl

/-! ## Decoding: the word of every row, from the `match` column of spec/opcode_table.json; operand bytes 0x34, 0x12. -/

/-- Every word of the list decodes, whole, to the instruction beside it. -/
def decodeAll (rows : List (List Byte × Instr)) : Bool :=
  rows.all (fun r => match decode r.1 with
    | .ok (i, []) => decide (i = r.2)
    | _ => false)

theorem test_decode_00 :
    (decodeAll
    [([0x00#8], .nop), ([0x01#8, 0x34#8, 0x12#8], .ldBcD16 0x1234#16), ([0x02#8], .ldAtBcA), ([0x03#8], .incBc),
     ([0x04#8], .incB), ([0x05#8], .decB), ([0x06#8, 0x34#8], .ldBD8 0x34#8), ([0x07#8], .rlca)] && decodeAll
    [([0x08#8, 0x34#8, 0x12#8], .ldAtA16Sp 0x1234#16), ([0x09#8], .addHlBc), ([0x0A#8], .ldAAtBc), ([0x0B#8], .decBc),
     ([0x0C#8], .incC), ([0x0D#8], .decC), ([0x0E#8, 0x34#8], .ldCD8 0x34#8), ([0x0F#8], .rrca)]) = true := by
  decide +kernel

theorem test_decode_10 :
    (decodeAll
    [([0x10#8, 0x34#8], .stop 0x34#8), ([0x11#8, 0x34#8, 0x12#8], .ldDeD16 0x1234#16), ([0x12#8], .ldAtDeA), ([0x13#8], .incDe),
     ([0x14#8], .incD), ([0x15#8], .decD), ([0x16#8, 0x34#8], .ldDD8 0x34#8), ([0x17#8], .rla)] && decodeAll
    [([0x18#8, 0x34#8], .jrE8 0x34#8), ([0x19#8], .addHlDe), ([0x1A#8], .ldAAtDe), ([0x1B#8], .decDe),
     ([0x1C#8], .incE), ([0x1D#8], .decE), ([0x1E#8, 0x34#8], .ldED8 0x34#8), ([0x1F#8], .rra)]) = true := by
  decide +kernel

theorem test_decode_20 :
    (decodeAll
    [([0x20#8, 0x34#8], .jrNzE8 0x34#8), ([0x21#8, 0x34#8, 0x12#8], .ldHlD16 0x1234#16), ([0x22#8], .ldAtHlIncA), ([0x23#8], .incHl),
     ([0x24#8], .incH), ([0x25#8], .decH), ([0x26#8, 0x34#8], .ldHD8 0x34#8), ([0x27#8], .daa)] && decodeAll
    [([0x28#8, 0x34#8], .jrZE8 0x34#8), ([0x29#8], .addHlHl), ([0x2A#8], .ldAAtHlInc), ([0x2B#8], .decHl),
     ([0x2C#8], .incL), ([0x2D#8], .decL), ([0x2E#8, 0x34#8], .ldLD8 0x34#8), ([0x2F#8], .cpl)]) = true := by
  decide +kernel

theorem test_decode_30 :
    (decodeAll
    [([0x30#8, 0x34#8], .jrNcE8 0x34#8), ([0x31#8, 0x34#8, 0x12#8], .ldSpD16 0x1234#16), ([0x32#8], .ldAtHlDecA), ([0x33#8], .incSp),
     ([0x34#8], .incAtHl), ([0x35#8], .decAtHl), ([0x36#8, 0x34#8], .ldAtHlD8 0x34#8), ([0x37#8], .scf)] && decodeAll
    [([0x38#8, 0x34#8], .jrCE8 0x34#8), ([0x39#8], .addHlSp), ([0x3A#8], .ldAAtHlDec), ([0x3B#8], .decSp),
     ([0x3C#8], .incA), ([0x3D#8], .decA), ([0x3E#8, 0x34#8], .ldAD8 0x34#8), ([0x3F#8], .ccf)]) = true := by
  decide +kernel

theorem test_decode_40 :
    (decodeAll
    [([0x40#8], .ldBB), ([0x41#8], .ldBC), ([0x42#8], .ldBD), ([0x43#8], .ldBE),
     ([0x44#8], .ldBH), ([0x45#8], .ldBL), ([0x46#8], .ldBAtHl), ([0x47#8], .ldBA)] && decodeAll
    [([0x48#8], .ldCB), ([0x49#8], .ldCC), ([0x4A#8], .ldCD), ([0x4B#8], .ldCE),
     ([0x4C#8], .ldCH), ([0x4D#8], .ldCL), ([0x4E#8], .ldCAtHl), ([0x4F#8], .ldCA)]) = true := by
  decide +kernel

theorem test_decode_50 :
    (decodeAll
    [([0x50#8], .ldDB), ([0x51#8], .ldDC), ([0x52#8], .ldDD), ([0x53#8], .ldDE),
     ([0x54#8], .ldDH), ([0x55#8], .ldDL), ([0x56#8], .ldDAtHl), ([0x57#8], .ldDA)] && decodeAll
    [([0x58#8], .ldEB), ([0x59#8], .ldEC), ([0x5A#8], .ldED), ([0x5B#8], .ldEE),
     ([0x5C#8], .ldEH), ([0x5D#8], .ldEL), ([0x5E#8], .ldEAtHl), ([0x5F#8], .ldEA)]) = true := by
  decide +kernel

theorem test_decode_60 :
    (decodeAll
    [([0x60#8], .ldHB), ([0x61#8], .ldHC), ([0x62#8], .ldHD), ([0x63#8], .ldHE),
     ([0x64#8], .ldHH), ([0x65#8], .ldHL), ([0x66#8], .ldHAtHl), ([0x67#8], .ldHA)] && decodeAll
    [([0x68#8], .ldLB), ([0x69#8], .ldLC), ([0x6A#8], .ldLD), ([0x6B#8], .ldLE),
     ([0x6C#8], .ldLH), ([0x6D#8], .ldLL), ([0x6E#8], .ldLAtHl), ([0x6F#8], .ldLA)]) = true := by
  decide +kernel

theorem test_decode_70 :
    (decodeAll
    [([0x70#8], .ldAtHlB), ([0x71#8], .ldAtHlC), ([0x72#8], .ldAtHlD), ([0x73#8], .ldAtHlE),
     ([0x74#8], .ldAtHlH), ([0x75#8], .ldAtHlL), ([0x76#8], .halt), ([0x77#8], .ldAtHlA)] && decodeAll
    [([0x78#8], .ldAB), ([0x79#8], .ldAC), ([0x7A#8], .ldAD), ([0x7B#8], .ldAE),
     ([0x7C#8], .ldAH), ([0x7D#8], .ldAL), ([0x7E#8], .ldAAtHl), ([0x7F#8], .ldAA)]) = true := by
  decide +kernel

theorem test_decode_80 :
    (decodeAll
    [([0x80#8], .addAB), ([0x81#8], .addAC), ([0x82#8], .addAD), ([0x83#8], .addAE),
     ([0x84#8], .addAH), ([0x85#8], .addAL), ([0x86#8], .addAAtHl), ([0x87#8], .addAA)] && decodeAll
    [([0x88#8], .adcAB), ([0x89#8], .adcAC), ([0x8A#8], .adcAD), ([0x8B#8], .adcAE),
     ([0x8C#8], .adcAH), ([0x8D#8], .adcAL), ([0x8E#8], .adcAAtHl), ([0x8F#8], .adcAA)]) = true := by
  decide +kernel

theorem test_decode_90 :
    (decodeAll
    [([0x90#8], .subB), ([0x91#8], .subC), ([0x92#8], .subD), ([0x93#8], .subE),
     ([0x94#8], .subH), ([0x95#8], .subL), ([0x96#8], .subAtHl), ([0x97#8], .subA)] && decodeAll
    [([0x98#8], .sbcAB), ([0x99#8], .sbcAC), ([0x9A#8], .sbcAD), ([0x9B#8], .sbcAE),
     ([0x9C#8], .sbcAH), ([0x9D#8], .sbcAL), ([0x9E#8], .sbcAAtHl), ([0x9F#8], .sbcAA)]) = true := by
  decide +kernel

theorem test_decode_A0 :
    (decodeAll
    [([0xA0#8], .andB), ([0xA1#8], .andC), ([0xA2#8], .andD), ([0xA3#8], .andE),
     ([0xA4#8], .andH), ([0xA5#8], .andL), ([0xA6#8], .andAtHl), ([0xA7#8], .andA)] && decodeAll
    [([0xA8#8], .xorB), ([0xA9#8], .xorC), ([0xAA#8], .xorD), ([0xAB#8], .xorE),
     ([0xAC#8], .xorH), ([0xAD#8], .xorL), ([0xAE#8], .xorAtHl), ([0xAF#8], .xorA)]) = true := by
  decide +kernel

theorem test_decode_B0 :
    (decodeAll
    [([0xB0#8], .orB), ([0xB1#8], .orC), ([0xB2#8], .orD), ([0xB3#8], .orE),
     ([0xB4#8], .orH), ([0xB5#8], .orL), ([0xB6#8], .orAtHl), ([0xB7#8], .orA)] && decodeAll
    [([0xB8#8], .cpB), ([0xB9#8], .cpC), ([0xBA#8], .cpD), ([0xBB#8], .cpE),
     ([0xBC#8], .cpH), ([0xBD#8], .cpL), ([0xBE#8], .cpAtHl), ([0xBF#8], .cpA)]) = true := by
  decide +kernel

theorem test_decode_C0 :
    (decodeAll
    [([0xC0#8], .retNz), ([0xC1#8], .popBc), ([0xC2#8, 0x34#8, 0x12#8], .jpNzA16 0x1234#16), ([0xC3#8, 0x34#8, 0x12#8], .jpA16 0x1234#16),
     ([0xC4#8, 0x34#8, 0x12#8], .callNzA16 0x1234#16), ([0xC5#8], .pushBc), ([0xC6#8, 0x34#8], .addAD8 0x34#8), ([0xC7#8], .rst00)] && decodeAll
    [([0xC8#8], .retZ), ([0xC9#8], .ret), ([0xCA#8, 0x34#8, 0x12#8], .jpZA16 0x1234#16), ([0xCC#8, 0x34#8, 0x12#8], .callZA16 0x1234#16),
     ([0xCD#8, 0x34#8, 0x12#8], .callA16 0x1234#16), ([0xCE#8, 0x34#8], .adcAD8 0x34#8), ([0xCF#8], .rst08)]) = true := by
  decide +kernel

theorem test_decode_D0 :
    (decodeAll
    [([0xD0#8], .retNc), ([0xD1#8], .popDe), ([0xD2#8, 0x34#8, 0x12#8], .jpNcA16 0x1234#16), ([0xD3#8], .illegalD3),
     ([0xD4#8, 0x34#8, 0x12#8], .callNcA16 0x1234#16), ([0xD5#8], .pushDe), ([0xD6#8, 0x34#8], .subD8 0x34#8), ([0xD7#8], .rst10)] && decodeAll
    [([0xD8#8], .retC), ([0xD9#8], .reti), ([0xDA#8, 0x34#8, 0x12#8], .jpCA16 0x1234#16), ([0xDB#8], .illegalDB),
     ([0xDC#8, 0x34#8, 0x12#8], .callCA16 0x1234#16), ([0xDD#8], .illegalDD), ([0xDE#8, 0x34#8], .sbcAD8 0x34#8), ([0xDF#8], .rst18)]) = true := by
  decide +kernel

theorem test_decode_E0 :
    (decodeAll
    [([0xE0#8, 0x34#8], .ldhAtA8A 0x34#8), ([0xE1#8], .popHl), ([0xE2#8], .ldhAtCA), ([0xE3#8], .illegalE3),
     ([0xE4#8], .illegalE4), ([0xE5#8], .pushHl), ([0xE6#8, 0x34#8], .andD8 0x34#8), ([0xE7#8], .rst20)] && decodeAll
    [([0xE8#8, 0x34#8], .addSpE8 0x34#8), ([0xE9#8], .jpHl), ([0xEA#8, 0x34#8, 0x12#8], .ldAtA16A 0x1234#16), ([0xEB#8], .illegalEB),
     ([0xEC#8], .illegalEC), ([0xED#8], .illegalED), ([0xEE#8, 0x34#8], .xorD8 0x34#8), ([0xEF#8], .rst28)]) = true := by
  decide +kernel

theorem test_decode_F0 :
    (decodeAll
    [([0xF0#8, 0x34#8], .ldhAAtA8 0x34#8), ([0xF1#8], .popAf), ([0xF2#8], .ldhAAtC), ([0xF3#8], .di),
     ([0xF4#8], .illegalF4), ([0xF5#8], .pushAf), ([0xF6#8, 0x34#8], .orD8 0x34#8), ([0xF7#8], .rst30)] && decodeAll
    [([0xF8#8, 0x34#8], .ldHlSpE8 0x34#8), ([0xF9#8], .ldSpHl), ([0xFA#8, 0x34#8, 0x12#8], .ldAAtA16 0x1234#16), ([0xFB#8], .ei),
     ([0xFC#8], .illegalFC), ([0xFD#8], .illegalFD), ([0xFE#8, 0x34#8], .cpD8 0x34#8), ([0xFF#8], .rst38)]) = true := by
  decide +kernel

theorem test_decode_cb_00 :
    (decodeAll
    [([0xCB#8, 0x00#8], .rlcB), ([0xCB#8, 0x01#8], .rlcC), ([0xCB#8, 0x02#8], .rlcD), ([0xCB#8, 0x03#8], .rlcE),
     ([0xCB#8, 0x04#8], .rlcH), ([0xCB#8, 0x05#8], .rlcL), ([0xCB#8, 0x06#8], .rlcAtHl), ([0xCB#8, 0x07#8], .rlcA)] && decodeAll
    [([0xCB#8, 0x08#8], .rrcB), ([0xCB#8, 0x09#8], .rrcC), ([0xCB#8, 0x0A#8], .rrcD), ([0xCB#8, 0x0B#8], .rrcE),
     ([0xCB#8, 0x0C#8], .rrcH), ([0xCB#8, 0x0D#8], .rrcL), ([0xCB#8, 0x0E#8], .rrcAtHl), ([0xCB#8, 0x0F#8], .rrcA)]) = true := by
  decide +kernel

theorem test_decode_cb_10 :
    (decodeAll
    [([0xCB#8, 0x10#8], .rlB), ([0xCB#8, 0x11#8], .rlC), ([0xCB#8, 0x12#8], .rlD), ([0xCB#8, 0x13#8], .rlE),
     ([0xCB#8, 0x14#8], .rlH), ([0xCB#8, 0x15#8], .rlL), ([0xCB#8, 0x16#8], .rlAtHl), ([0xCB#8, 0x17#8], .rlA)] && decodeAll
    [([0xCB#8, 0x18#8], .rrB), ([0xCB#8, 0x19#8], .rrC), ([0xCB#8, 0x1A#8], .rrD), ([0xCB#8, 0x1B#8], .rrE),
     ([0xCB#8, 0x1C#8], .rrH), ([0xCB#8, 0x1D#8], .rrL), ([0xCB#8, 0x1E#8], .rrAtHl), ([0xCB#8, 0x1F#8], .rrA)]) = true := by
  decide +kernel

theorem test_decode_cb_20 :
    (decodeAll
    [([0xCB#8, 0x20#8], .slaB), ([0xCB#8, 0x21#8], .slaC), ([0xCB#8, 0x22#8], .slaD), ([0xCB#8, 0x23#8], .slaE),
     ([0xCB#8, 0x24#8], .slaH), ([0xCB#8, 0x25#8], .slaL), ([0xCB#8, 0x26#8], .slaAtHl), ([0xCB#8, 0x27#8], .slaA)] && decodeAll
    [([0xCB#8, 0x28#8], .sraB), ([0xCB#8, 0x29#8], .sraC), ([0xCB#8, 0x2A#8], .sraD), ([0xCB#8, 0x2B#8], .sraE),
     ([0xCB#8, 0x2C#8], .sraH), ([0xCB#8, 0x2D#8], .sraL), ([0xCB#8, 0x2E#8], .sraAtHl), ([0xCB#8, 0x2F#8], .sraA)]) = true := by
  decide +kernel

theorem test_decode_cb_30 :
    (decodeAll
    [([0xCB#8, 0x30#8], .swapB), ([0xCB#8, 0x31#8], .swapC), ([0xCB#8, 0x32#8], .swapD), ([0xCB#8, 0x33#8], .swapE),
     ([0xCB#8, 0x34#8], .swapH), ([0xCB#8, 0x35#8], .swapL), ([0xCB#8, 0x36#8], .swapAtHl), ([0xCB#8, 0x37#8], .swapA)] && decodeAll
    [([0xCB#8, 0x38#8], .srlB), ([0xCB#8, 0x39#8], .srlC), ([0xCB#8, 0x3A#8], .srlD), ([0xCB#8, 0x3B#8], .srlE),
     ([0xCB#8, 0x3C#8], .srlH), ([0xCB#8, 0x3D#8], .srlL), ([0xCB#8, 0x3E#8], .srlAtHl), ([0xCB#8, 0x3F#8], .srlA)]) = true := by
  decide +kernel

theorem test_decode_cb_40 :
    (decodeAll
    [([0xCB#8, 0x40#8], .bit0B), ([0xCB#8, 0x41#8], .bit0C), ([0xCB#8, 0x42#8], .bit0D), ([0xCB#8, 0x43#8], .bit0E),
     ([0xCB#8, 0x44#8], .bit0H), ([0xCB#8, 0x45#8], .bit0L), ([0xCB#8, 0x46#8], .bit0AtHl), ([0xCB#8, 0x47#8], .bit0A)] && decodeAll
    [([0xCB#8, 0x48#8], .bit1B), ([0xCB#8, 0x49#8], .bit1C), ([0xCB#8, 0x4A#8], .bit1D), ([0xCB#8, 0x4B#8], .bit1E),
     ([0xCB#8, 0x4C#8], .bit1H), ([0xCB#8, 0x4D#8], .bit1L), ([0xCB#8, 0x4E#8], .bit1AtHl), ([0xCB#8, 0x4F#8], .bit1A)]) = true := by
  decide +kernel

theorem test_decode_cb_50 :
    (decodeAll
    [([0xCB#8, 0x50#8], .bit2B), ([0xCB#8, 0x51#8], .bit2C), ([0xCB#8, 0x52#8], .bit2D), ([0xCB#8, 0x53#8], .bit2E),
     ([0xCB#8, 0x54#8], .bit2H), ([0xCB#8, 0x55#8], .bit2L), ([0xCB#8, 0x56#8], .bit2AtHl), ([0xCB#8, 0x57#8], .bit2A)] && decodeAll
    [([0xCB#8, 0x58#8], .bit3B), ([0xCB#8, 0x59#8], .bit3C), ([0xCB#8, 0x5A#8], .bit3D), ([0xCB#8, 0x5B#8], .bit3E),
     ([0xCB#8, 0x5C#8], .bit3H), ([0xCB#8, 0x5D#8], .bit3L), ([0xCB#8, 0x5E#8], .bit3AtHl), ([0xCB#8, 0x5F#8], .bit3A)]) = true := by
  decide +kernel

theorem test_decode_cb_60 :
    (decodeAll
    [([0xCB#8, 0x60#8], .bit4B), ([0xCB#8, 0x61#8], .bit4C), ([0xCB#8, 0x62#8], .bit4D), ([0xCB#8, 0x63#8], .bit4E),
     ([0xCB#8, 0x64#8], .bit4H), ([0xCB#8, 0x65#8], .bit4L), ([0xCB#8, 0x66#8], .bit4AtHl), ([0xCB#8, 0x67#8], .bit4A)] && decodeAll
    [([0xCB#8, 0x68#8], .bit5B), ([0xCB#8, 0x69#8], .bit5C), ([0xCB#8, 0x6A#8], .bit5D), ([0xCB#8, 0x6B#8], .bit5E),
     ([0xCB#8, 0x6C#8], .bit5H), ([0xCB#8, 0x6D#8], .bit5L), ([0xCB#8, 0x6E#8], .bit5AtHl), ([0xCB#8, 0x6F#8], .bit5A)]) = true := by
  decide +kernel

theorem test_decode_cb_70 :
    (decodeAll
    [([0xCB#8, 0x70#8], .bit6B), ([0xCB#8, 0x71#8], .bit6C), ([0xCB#8, 0x72#8], .bit6D), ([0xCB#8, 0x73#8], .bit6E),
     ([0xCB#8, 0x74#8], .bit6H), ([0xCB#8, 0x75#8], .bit6L), ([0xCB#8, 0x76#8], .bit6AtHl), ([0xCB#8, 0x77#8], .bit6A)] && decodeAll
    [([0xCB#8, 0x78#8], .bit7B), ([0xCB#8, 0x79#8], .bit7C), ([0xCB#8, 0x7A#8], .bit7D), ([0xCB#8, 0x7B#8], .bit7E),
     ([0xCB#8, 0x7C#8], .bit7H), ([0xCB#8, 0x7D#8], .bit7L), ([0xCB#8, 0x7E#8], .bit7AtHl), ([0xCB#8, 0x7F#8], .bit7A)]) = true := by
  decide +kernel

theorem test_decode_cb_80 :
    (decodeAll
    [([0xCB#8, 0x80#8], .res0B), ([0xCB#8, 0x81#8], .res0C), ([0xCB#8, 0x82#8], .res0D), ([0xCB#8, 0x83#8], .res0E),
     ([0xCB#8, 0x84#8], .res0H), ([0xCB#8, 0x85#8], .res0L), ([0xCB#8, 0x86#8], .res0AtHl), ([0xCB#8, 0x87#8], .res0A)] && decodeAll
    [([0xCB#8, 0x88#8], .res1B), ([0xCB#8, 0x89#8], .res1C), ([0xCB#8, 0x8A#8], .res1D), ([0xCB#8, 0x8B#8], .res1E),
     ([0xCB#8, 0x8C#8], .res1H), ([0xCB#8, 0x8D#8], .res1L), ([0xCB#8, 0x8E#8], .res1AtHl), ([0xCB#8, 0x8F#8], .res1A)]) = true := by
  decide +kernel

theorem test_decode_cb_90 :
    (decodeAll
    [([0xCB#8, 0x90#8], .res2B), ([0xCB#8, 0x91#8], .res2C), ([0xCB#8, 0x92#8], .res2D), ([0xCB#8, 0x93#8], .res2E),
     ([0xCB#8, 0x94#8], .res2H), ([0xCB#8, 0x95#8], .res2L), ([0xCB#8, 0x96#8], .res2AtHl), ([0xCB#8, 0x97#8], .res2A)] && decodeAll
    [([0xCB#8, 0x98#8], .res3B), ([0xCB#8, 0x99#8], .res3C), ([0xCB#8, 0x9A#8], .res3D), ([0xCB#8, 0x9B#8], .res3E),
     ([0xCB#8, 0x9C#8], .res3H), ([0xCB#8, 0x9D#8], .res3L), ([0xCB#8, 0x9E#8], .res3AtHl), ([0xCB#8, 0x9F#8], .res3A)]) = true := by
  decide +kernel

theorem test_decode_cb_A0 :
    (decodeAll
    [([0xCB#8, 0xA0#8], .res4B), ([0xCB#8, 0xA1#8], .res4C), ([0xCB#8, 0xA2#8], .res4D), ([0xCB#8, 0xA3#8], .res4E),
     ([0xCB#8, 0xA4#8], .res4H), ([0xCB#8, 0xA5#8], .res4L), ([0xCB#8, 0xA6#8], .res4AtHl), ([0xCB#8, 0xA7#8], .res4A)] && decodeAll
    [([0xCB#8, 0xA8#8], .res5B), ([0xCB#8, 0xA9#8], .res5C), ([0xCB#8, 0xAA#8], .res5D), ([0xCB#8, 0xAB#8], .res5E),
     ([0xCB#8, 0xAC#8], .res5H), ([0xCB#8, 0xAD#8], .res5L), ([0xCB#8, 0xAE#8], .res5AtHl), ([0xCB#8, 0xAF#8], .res5A)]) = true := by
  decide +kernel

theorem test_decode_cb_B0 :
    (decodeAll
    [([0xCB#8, 0xB0#8], .res6B), ([0xCB#8, 0xB1#8], .res6C), ([0xCB#8, 0xB2#8], .res6D), ([0xCB#8, 0xB3#8], .res6E),
     ([0xCB#8, 0xB4#8], .res6H), ([0xCB#8, 0xB5#8], .res6L), ([0xCB#8, 0xB6#8], .res6AtHl), ([0xCB#8, 0xB7#8], .res6A)] && decodeAll
    [([0xCB#8, 0xB8#8], .res7B), ([0xCB#8, 0xB9#8], .res7C), ([0xCB#8, 0xBA#8], .res7D), ([0xCB#8, 0xBB#8], .res7E),
     ([0xCB#8, 0xBC#8], .res7H), ([0xCB#8, 0xBD#8], .res7L), ([0xCB#8, 0xBE#8], .res7AtHl), ([0xCB#8, 0xBF#8], .res7A)]) = true := by
  decide +kernel

theorem test_decode_cb_C0 :
    (decodeAll
    [([0xCB#8, 0xC0#8], .set0B), ([0xCB#8, 0xC1#8], .set0C), ([0xCB#8, 0xC2#8], .set0D), ([0xCB#8, 0xC3#8], .set0E),
     ([0xCB#8, 0xC4#8], .set0H), ([0xCB#8, 0xC5#8], .set0L), ([0xCB#8, 0xC6#8], .set0AtHl), ([0xCB#8, 0xC7#8], .set0A)] && decodeAll
    [([0xCB#8, 0xC8#8], .set1B), ([0xCB#8, 0xC9#8], .set1C), ([0xCB#8, 0xCA#8], .set1D), ([0xCB#8, 0xCB#8], .set1E),
     ([0xCB#8, 0xCC#8], .set1H), ([0xCB#8, 0xCD#8], .set1L), ([0xCB#8, 0xCE#8], .set1AtHl), ([0xCB#8, 0xCF#8], .set1A)]) = true := by
  decide +kernel

theorem test_decode_cb_D0 :
    (decodeAll
    [([0xCB#8, 0xD0#8], .set2B), ([0xCB#8, 0xD1#8], .set2C), ([0xCB#8, 0xD2#8], .set2D), ([0xCB#8, 0xD3#8], .set2E),
     ([0xCB#8, 0xD4#8], .set2H), ([0xCB#8, 0xD5#8], .set2L), ([0xCB#8, 0xD6#8], .set2AtHl), ([0xCB#8, 0xD7#8], .set2A)] && decodeAll
    [([0xCB#8, 0xD8#8], .set3B), ([0xCB#8, 0xD9#8], .set3C), ([0xCB#8, 0xDA#8], .set3D), ([0xCB#8, 0xDB#8], .set3E),
     ([0xCB#8, 0xDC#8], .set3H), ([0xCB#8, 0xDD#8], .set3L), ([0xCB#8, 0xDE#8], .set3AtHl), ([0xCB#8, 0xDF#8], .set3A)]) = true := by
  decide +kernel

theorem test_decode_cb_E0 :
    (decodeAll
    [([0xCB#8, 0xE0#8], .set4B), ([0xCB#8, 0xE1#8], .set4C), ([0xCB#8, 0xE2#8], .set4D), ([0xCB#8, 0xE3#8], .set4E),
     ([0xCB#8, 0xE4#8], .set4H), ([0xCB#8, 0xE5#8], .set4L), ([0xCB#8, 0xE6#8], .set4AtHl), ([0xCB#8, 0xE7#8], .set4A)] && decodeAll
    [([0xCB#8, 0xE8#8], .set5B), ([0xCB#8, 0xE9#8], .set5C), ([0xCB#8, 0xEA#8], .set5D), ([0xCB#8, 0xEB#8], .set5E),
     ([0xCB#8, 0xEC#8], .set5H), ([0xCB#8, 0xED#8], .set5L), ([0xCB#8, 0xEE#8], .set5AtHl), ([0xCB#8, 0xEF#8], .set5A)]) = true := by
  decide +kernel

theorem test_decode_cb_F0 :
    (decodeAll
    [([0xCB#8, 0xF0#8], .set6B), ([0xCB#8, 0xF1#8], .set6C), ([0xCB#8, 0xF2#8], .set6D), ([0xCB#8, 0xF3#8], .set6E),
     ([0xCB#8, 0xF4#8], .set6H), ([0xCB#8, 0xF5#8], .set6L), ([0xCB#8, 0xF6#8], .set6AtHl), ([0xCB#8, 0xF7#8], .set6A)] && decodeAll
    [([0xCB#8, 0xF8#8], .set7B), ([0xCB#8, 0xF9#8], .set7C), ([0xCB#8, 0xFA#8], .set7D), ([0xCB#8, 0xFB#8], .set7E),
     ([0xCB#8, 0xFC#8], .set7H), ([0xCB#8, 0xFD#8], .set7L), ([0xCB#8, 0xFE#8], .set7AtHl), ([0xCB#8, 0xFF#8], .set7A)]) = true := by
  decide +kernel

/-- R88, R286, V95: what follows the prefix is looked up in the extended table, the prefix byte itself included. -/
theorem test_decode_prefix : decode [0xCB#8, 0xCB#8] = .ok (.set1E, []) := rfl

theorem test_decode_too_short :
    decode [] = .error .noOpcode ∧ decode [0x3E#8] = .error (.missingOperand 0x3E#8) ∧
      decode [0xC3#8, 0x00#8] = .error (.missingOperand 0xC3#8) ∧ decode [0xCB#8] = .error .missingExtendedOpcode :=
  ⟨rfl, rfl, rfl, rfl⟩

/-- The host's numbering (R100): a 16-bit row is CB and then its low byte; others have their first byte lowest. -/
theorem test_table_words :
    decodeTableWord 16 0xCB37 = some .swapA ∧ decodeTableWord 8 0x76 = some .halt ∧
      decodeTableWord 8 0x3E = some (.ldAD8 0x00#8) ∧ decodeTableWord 24 0x1234C3 = some (.jpA16 0x1234#16) ∧
      decodeTableWord 8 0xCB = some .rlcB :=
  ⟨rfl, rfl, rfl, rfl, rfl⟩

/-! ## The spec's single-instruction vectors (95, part 2) -/

/-- The registers of a vector's row; the defaults are the common conditions of 95. -/
structure Regs where
  af : Word := 0x01B0#16
  bc : Word := 0x0013#16
  de : Word := 0x00D8#16
  hl : Word := 0x014D#16
  sp : Word := 0xFFFE#16
  pc : Word := 0x0100#16
  ime : Bool := false
  ei : Bool := false
  halted : Bool := false
  stopped : Bool := false
deriving DecidableEq, Repr

/-- The registers of a state. -/
def regsOf (s : State) : Regs :=
  ⟨s.af, s.bc, s.de, s.hl, s.sp, s.pc, s.ime, s.eiPending, s.halted, s.stopped⟩

/-- Construction with RESET_PC = 0x0100, these registers, and these bytes of memory. -/
def startState (r : Regs) (mem : List (Word × Byte)) : State :=
  let s := State.construct { Config.default with resetPc := .at0100 } (.plain [])
  let s := mem.foldl (fun s c => s.setMem (Memory.write s.mem c.1.toNat c.2)) s
  { s with
    a := highByte r.af, f := lowByte r.af, b := highByte r.bc, c := lowByte r.bc, d := highByte r.de, e := lowByte r.de
    h := highByte r.hl, l := lowByte r.hl, sp := r.sp, pc := r.pc, ime := r.ime }

/-- Construction with RESET_PC = 0x0100 and these bytes at 0x0100. -/
def program (bytes : List Byte) : State :=
  (startState {} []).placeBytes 0x0100#16 bytes

/-- The state a step leaves (it always leaves one). -/
def next (s : State) : State :=
  match step s with
  | .next t => t
  | _ => s

/-- A vector: its bytes at 0x0100, the registers and memory it starts with, and what its instruction leaves: registers, cost, and
its transactions in order, a byte read or written. -/
structure Vector where
  id : Nat
  bytes : List Byte
  start : Regs := {}
  mem : List (Word × Byte) := []
  stop : Regs
  ticks : Nat
  bus : List BusEvent

/-- One step from the start gives the registers, the cost and the transactions, and each written byte is in memory. -/
def Vector.holds (v : Vector) : Bool :=
  let s := next ((startState v.start v.mem).placeBytes 0x0100#16 v.bytes)
  decide (regsOf s = v.stop) && decide (s.cr = v.ticks) && decide (s.trace.reverse = v.bus) &&
    v.bus.all (fun e => match e with
      | .write a x => decide (s.peek a = x)
      | _ => true)

/-- The vectors of a list that fail, by number. -/
def failing (vs : List Vector) : List Nat :=
  (vs.filter (fun v => !v.holds)).map Vector.id

/-- 8-bit loads (40_loads8.md). -/
def loads8Vectors : List Vector :=
  [
  -- V1 (R111): LD B,C
  { id := 1, bytes := [0x41#8], stop := { bc := 0x1313#16, pc := 0x0101#16 },
    ticks := 4, bus := [.read 0x0100#16 0x41#8] },
  -- V2 (R111): LD A,A: no change
  { id := 2, bytes := [0x7F#8], start := { af := 0x5AB0#16 }, stop := { af := 0x5AB0#16, pc := 0x0101#16 },
    ticks := 4, bus := [.read 0x0100#16 0x7F#8] },
  -- V3 (R112): LD A,0x42 (§8)
  { id := 3, bytes := [0x3E#8, 0x42#8], stop := { af := 0x42B0#16, pc := 0x0102#16 },
    ticks := 8, bus := [.read 0x0100#16 0x3E#8, .read 0x0101#16 0x42#8] },
  -- V4 (R113): LD H,(HL): address read before H is written
  { id := 4, bytes := [0x66#8], start := { hl := 0xC000#16 }, mem := [(0xC000#16, 0x9A#8)], stop := { hl := 0x9A00#16, pc := 0x0101#16 },
    ticks := 8, bus := [.read 0x0100#16 0x66#8, .read 0xC000#16 0x9A#8] },
  -- V5 (R114): LD (HL),B
  { id := 5, bytes := [0x70#8], start := { bc := 0x7713#16, hl := 0xC000#16 }, stop := { bc := 0x7713#16, hl := 0xC000#16, pc := 0x0101#16 },
    ticks := 8, bus := [.read 0x0100#16 0x70#8, .write 0xC000#16 0x77#8] },
  -- V6 (R115): LD (HL),d8
  { id := 6, bytes := [0x36#8, 0xAB#8], start := { hl := 0xC001#16 }, stop := { hl := 0xC001#16, pc := 0x0102#16 },
    ticks := 12, bus := [.read 0x0100#16 0x36#8, .read 0x0101#16 0xAB#8, .write 0xC001#16 0xAB#8] }] ++
  [
  -- V7 (R116): LD A,(BC)
  { id := 7, bytes := [0x0A#8], start := { bc := 0xC010#16 }, mem := [(0xC010#16, 0x11#8)], stop := { af := 0x11B0#16, bc := 0xC010#16, pc := 0x0101#16 },
    ticks := 8, bus := [.read 0x0100#16 0x0A#8, .read 0xC010#16 0x11#8] },
  -- V8 (R119): LD (DE),A
  { id := 8, bytes := [0x12#8], start := { af := 0x22B0#16, de := 0xC020#16 }, stop := { af := 0x22B0#16, de := 0xC020#16, pc := 0x0101#16 },
    ticks := 8, bus := [.read 0x0100#16 0x12#8, .write 0xC020#16 0x22#8] },
  -- V9 (R120): LD A,(0xC034)
  { id := 9, bytes := [0xFA#8, 0x34#8, 0xC0#8], mem := [(0xC034#16, 0x5C#8)], stop := { af := 0x5CB0#16, pc := 0x0103#16 },
    ticks := 16, bus := [.read 0x0100#16 0xFA#8, .read 0x0101#16 0x34#8, .read 0x0102#16 0xC0#8, .read 0xC034#16 0x5C#8] },
  -- V10 (R121): LD (0xFFFF),A
  { id := 10, bytes := [0xEA#8, 0xFF#8, 0xFF#8], start := { af := 0x1FB0#16 }, stop := { af := 0x1FB0#16, pc := 0x0103#16 },
    ticks := 16, bus := [.read 0x0100#16 0xEA#8, .read 0x0101#16 0xFF#8, .read 0x0102#16 0xFF#8, .write 0xFFFF#16 0x1F#8] },
  -- V11 (R122): LDH A,(C)
  { id := 11, bytes := [0xF2#8], start := { bc := 0x0080#16 }, mem := [(0xFF80#16, 0x3C#8)], stop := { af := 0x3CB0#16, bc := 0x0080#16, pc := 0x0101#16 },
    ticks := 8, bus := [.read 0x0100#16 0xF2#8, .read 0xFF80#16 0x3C#8] },
  -- V12 (R125): LDH (0x90),A
  { id := 12, bytes := [0xE0#8, 0x90#8], start := { af := 0x07B0#16 }, stop := { af := 0x07B0#16, pc := 0x0102#16 },
    ticks := 12, bus := [.read 0x0100#16 0xE0#8, .read 0x0101#16 0x90#8, .write 0xFF90#16 0x07#8] }] ++
  [
  -- V13 (R126): LD A,(HL+): HL wraps to 0x0000
  { id := 13, bytes := [0x2A#8], start := { hl := 0xFFFF#16 }, mem := [(0xFFFF#16, 0x66#8)], stop := { af := 0x66B0#16, hl := 0x0000#16, pc := 0x0101#16 },
    ticks := 8, bus := [.read 0x0100#16 0x2A#8, .read 0xFFFF#16 0x66#8] },
  -- V14 (R129): LD (HL-),A: HL wraps to 0xFFFF; the write hits 0x0000
  { id := 14, bytes := [0x32#8], start := { hl := 0x0000#16 }, stop := { hl := 0xFFFF#16, pc := 0x0101#16 },
    ticks := 8, bus := [.read 0x0100#16 0x32#8, .write 0x0000#16 0x01#8] }]

theorem test_loads8_vectors : failing loads8Vectors = [] := by decide +kernel

/-- 16-bit loads (41_loads16.md). -/
def loads16Vectors : List Vector :=
  [
  -- V15 (R141): LD BC,0x1234
  { id := 15, bytes := [0x01#8, 0x34#8, 0x12#8], stop := { bc := 0x1234#16, pc := 0x0103#16 },
    ticks := 12, bus := [.read 0x0100#16 0x01#8, .read 0x0101#16 0x34#8, .read 0x0102#16 0x12#8] },
  -- V16 (R141): LD SP,0xDFFE
  { id := 16, bytes := [0x31#8, 0xFE#8, 0xDF#8], stop := { sp := 0xDFFE#16, pc := 0x0103#16 },
    ticks := 12, bus := [.read 0x0100#16 0x31#8, .read 0x0101#16 0xFE#8, .read 0x0102#16 0xDF#8] },
  -- V17 (R142): LD (0xFFFF),SP: high byte wraps to 0x0000
  { id := 17, bytes := [0x08#8, 0xFF#8, 0xFF#8], start := { sp := 0xABCD#16 }, stop := { sp := 0xABCD#16, pc := 0x0103#16 },
    ticks := 20, bus := [.read 0x0100#16 0x08#8, .read 0x0101#16 0xFF#8, .read 0x0102#16 0xFF#8, .write 0xFFFF#16 0xCD#8, .write 0x0000#16 0xAB#8] },
  -- V18 (R143): LD SP,HL
  { id := 18, bytes := [0xF9#8], start := { hl := 0xDFF0#16 }, stop := { hl := 0xDFF0#16, sp := 0xDFF0#16, pc := 0x0101#16 },
    ticks := 8, bus := [.read 0x0100#16 0xF9#8] },
  -- V19 (R144): LD HL,SP-1: no low-byte carry
  { id := 19, bytes := [0xF8#8, 0xFF#8], start := { sp := 0x0000#16 }, stop := { af := 0x0100#16, hl := 0xFFFF#16, sp := 0x0000#16, pc := 0x0102#16 },
    ticks := 12, bus := [.read 0x0100#16 0xF8#8, .read 0x0101#16 0xFF#8] },
  -- V20 (R144): LD HL,SP+1: H and C from the low byte
  { id := 20, bytes := [0xF8#8, 0x01#8], start := { sp := 0x00FF#16 }, stop := { af := 0x0130#16, hl := 0x0100#16, sp := 0x00FF#16, pc := 0x0102#16 },
    ticks := 12, bus := [.read 0x0100#16 0xF8#8, .read 0x0101#16 0x01#8] }] ++
  [
  -- V21 (R144): LD HL,SP-1 with SP=1: H=1, C=1 although the result is smaller; Z cleared
  { id := 21, bytes := [0xF8#8, 0xFF#8], start := { af := 0x0180#16, sp := 0x0001#16 }, stop := { af := 0x0130#16, hl := 0x0000#16, sp := 0x0001#16, pc := 0x0102#16 },
    ticks := 12, bus := [.read 0x0100#16 0xF8#8, .read 0x0101#16 0xFF#8] }]

theorem test_loads16_vectors : failing loads16Vectors = [] := by decide +kernel

/-- 8-bit ALU (42_alu8.md). -/
def alu8Vectors : List Vector :=
  [
  -- V22 (R152): ADD A,B: 0x100 wraps
  { id := 22, bytes := [0x80#8], start := { af := 0x3AB0#16, bc := 0xC613#16 }, stop := { af := 0x00B0#16, bc := 0xC613#16, pc := 0x0101#16 },
    ticks := 4, bus := [.read 0x0100#16 0x80#8] },
  -- V23 (R152): ADD A,A: half-carry
  { id := 23, bytes := [0x87#8], start := { af := 0x08B0#16 }, stop := { af := 0x1020#16, pc := 0x0101#16 },
    ticks := 4, bus := [.read 0x0100#16 0x87#8] },
  -- V24 (R155): ADC A,B: carry-in overflows
  { id := 24, bytes := [0x88#8], start := { af := 0xFF10#16 }, stop := { af := 0x00B0#16, pc := 0x0101#16 },
    ticks := 4, bus := [.read 0x0100#16 0x88#8] },
  -- V25 (R155): ADC: carry-in completes the nibble carry
  { id := 25, bytes := [0x88#8], start := { af := 0x0E10#16, bc := 0x0113#16 }, stop := { af := 0x1020#16, bc := 0x0113#16, pc := 0x0101#16 },
    ticks := 4, bus := [.read 0x0100#16 0x88#8] },
  -- V26 (R158): SUB B: equal operands
  { id := 26, bytes := [0x90#8], start := { af := 0x3EB0#16, bc := 0x3E13#16 }, stop := { af := 0x00C0#16, bc := 0x3E13#16, pc := 0x0101#16 },
    ticks := 4, bus := [.read 0x0100#16 0x90#8] },
  -- V27 (R158): SUB B: borrow, no half-borrow
  { id := 27, bytes := [0x90#8], start := { af := 0x3EB0#16, bc := 0x4013#16 }, stop := { af := 0xFE50#16, bc := 0x4013#16, pc := 0x0101#16 },
    ticks := 4, bus := [.read 0x0100#16 0x90#8] }] ++
  [
  -- V28 (R158): SUB B: half-borrow only
  { id := 28, bytes := [0x90#8], start := { af := 0x10B0#16, bc := 0x0113#16 }, stop := { af := 0x0F60#16, bc := 0x0113#16, pc := 0x0101#16 },
    ticks := 4, bus := [.read 0x0100#16 0x90#8] },
  -- V29 (R161): SBC A,B: carry-in gives a half-borrow, result 0
  { id := 29, bytes := [0x98#8], start := { af := 0x1010#16, bc := 0x0F13#16 }, stop := { af := 0x00E0#16, bc := 0x0F13#16, pc := 0x0101#16 },
    ticks := 4, bus := [.read 0x0100#16 0x98#8] },
  -- V30 (R161): SBC A,A with C=1 gives 0xFF
  { id := 30, bytes := [0x9F#8], start := { af := 0x5C10#16 }, stop := { af := 0xFF70#16, pc := 0x0101#16 },
    ticks := 4, bus := [.read 0x0100#16 0x9F#8] },
  -- V31 (R161): SBC A,A with C=0 gives 0x00
  { id := 31, bytes := [0x9F#8], start := { af := 0x5C00#16 }, stop := { af := 0x00C0#16, pc := 0x0101#16 },
    ticks := 4, bus := [.read 0x0100#16 0x9F#8] },
  -- V32 (R164): AND B: result 0, H=1
  { id := 32, bytes := [0xA0#8], start := { af := 0x5AB0#16, bc := 0xA513#16 }, stop := { af := 0x00A0#16, bc := 0xA513#16, pc := 0x0101#16 },
    ticks := 4, bus := [.read 0x0100#16 0xA0#8] },
  -- V33 (R167): XOR A (§8 scenario)
  { id := 33, bytes := [0xAF#8], start := { af := 0xFF70#16 }, stop := { af := 0x0080#16, pc := 0x0101#16 },
    ticks := 4, bus := [.read 0x0100#16 0xAF#8] }] ++
  [
  -- V34 (R170): OR C: zero
  { id := 34, bytes := [0xB1#8], start := { af := 0x0070#16, bc := 0x0000#16 }, stop := { af := 0x0080#16, bc := 0x0000#16, pc := 0x0101#16 },
    ticks := 4, bus := [.read 0x0100#16 0xB1#8] },
  -- V35 (R173): CP B: A unchanged
  { id := 35, bytes := [0xB8#8], start := { af := 0x3CB0#16, bc := 0x2F13#16 }, stop := { af := 0x3C60#16, bc := 0x2F13#16, pc := 0x0101#16 },
    ticks := 4, bus := [.read 0x0100#16 0xB8#8] },
  -- V36 (R175): CP 0x3C: equal
  { id := 36, bytes := [0xFE#8, 0x3C#8], start := { af := 0x3CB0#16 }, stop := { af := 0x3CC0#16, pc := 0x0102#16 },
    ticks := 8, bus := [.read 0x0100#16 0xFE#8, .read 0x0101#16 0x3C#8] },
  -- V37 (R175): CP 0x40: borrow
  { id := 37, bytes := [0xFE#8, 0x40#8], start := { af := 0x3CB0#16 }, stop := { af := 0x3C50#16, pc := 0x0102#16 },
    ticks := 8, bus := [.read 0x0100#16 0xFE#8, .read 0x0101#16 0x40#8] },
  -- V38 (R176): INC A: 0xFF to 0x00, C preserved
  { id := 38, bytes := [0x3C#8], start := { af := 0xFF10#16 }, stop := { af := 0x00B0#16, pc := 0x0101#16 },
    ticks := 4, bus := [.read 0x0100#16 0x3C#8] },
  -- V39 (R176): INC B: half-carry, C stays 0
  { id := 39, bytes := [0x04#8], start := { af := 0x0100#16, bc := 0x0F13#16 }, stop := { af := 0x0120#16, bc := 0x1013#16, pc := 0x0101#16 },
    ticks := 4, bus := [.read 0x0100#16 0x04#8] }] ++
  [
  -- V40 (R178): DEC B: to zero, C preserved
  { id := 40, bytes := [0x05#8], start := { af := 0x0110#16, bc := 0x0113#16 }, stop := { af := 0x01D0#16, pc := 0x0101#16 },
    ticks := 4, bus := [.read 0x0100#16 0x05#8] },
  -- V41 (R178): DEC B: 0x00 to 0xFF, half-borrow, C stays 0
  { id := 41, bytes := [0x05#8], start := { af := 0x0100#16 }, stop := { af := 0x0160#16, bc := 0xFF13#16, pc := 0x0101#16 },
    ticks := 4, bus := [.read 0x0100#16 0x05#8] },
  -- V42 (R177): INC (HL)
  { id := 42, bytes := [0x34#8], start := { hl := 0xC000#16 }, mem := [(0xC000#16, 0x7F#8)], stop := { af := 0x0130#16, hl := 0xC000#16, pc := 0x0101#16 },
    ticks := 12, bus := [.read 0x0100#16 0x34#8, .read 0xC000#16 0x7F#8, .write 0xC000#16 0x80#8] },
  -- V43 (R179): DEC (HL)
  { id := 43, bytes := [0x35#8], start := { hl := 0xC000#16 }, mem := [(0xC000#16, 0x00#8)], stop := { af := 0x0170#16, hl := 0xC000#16, pc := 0x0101#16 },
    ticks := 12, bus := [.read 0x0100#16 0x35#8, .read 0xC000#16 0x00#8, .write 0xC000#16 0xFF#8] },
  -- V48 (R181): CPL
  { id := 48, bytes := [0x2F#8], start := { af := 0x3500#16 }, stop := { af := 0xCA60#16, pc := 0x0101#16 },
    ticks := 4, bus := [.read 0x0100#16 0x2F#8] },
  -- V49 (R182): SCF
  { id := 49, bytes := [0x37#8], start := { af := 0x01E0#16 }, stop := { af := 0x0190#16, pc := 0x0101#16 },
    ticks := 4, bus := [.read 0x0100#16 0x37#8] }] ++
  [
  -- V50 (R183): CCF
  { id := 50, bytes := [0x3F#8], stop := { af := 0x0180#16, pc := 0x0101#16 },
    ticks := 4, bus := [.read 0x0100#16 0x3F#8] }]

theorem test_alu8_vectors : failing alu8Vectors = [] := by decide +kernel

/-- 16-bit arithmetic (43_alu16.md). -/
def alu16Vectors : List Vector :=
  [
  -- V51 (R191): ADD HL,BC: bit-11 carry, Z preserved
  { id := 51, bytes := [0x09#8], start := { af := 0x0180#16, bc := 0x0001#16, hl := 0x0FFF#16 }, stop := { af := 0x01A0#16, bc := 0x0001#16, hl := 0x1000#16, pc := 0x0101#16 },
    ticks := 8, bus := [.read 0x0100#16 0x09#8] },
  -- V52 (R191): ADD HL,HL: result 0, C=1, Z stays 0
  { id := 52, bytes := [0x29#8], start := { af := 0x0100#16, hl := 0x8000#16 }, stop := { af := 0x0110#16, hl := 0x0000#16, pc := 0x0101#16 },
    ticks := 8, bus := [.read 0x0100#16 0x29#8] },
  -- V53 (R192): INC BC: wraps, no flags
  { id := 53, bytes := [0x03#8], start := { af := 0x0100#16, bc := 0xFFFF#16 }, stop := { af := 0x0100#16, bc := 0x0000#16, pc := 0x0101#16 },
    ticks := 8, bus := [.read 0x0100#16 0x03#8] },
  -- V54 (R193): DEC BC: wraps, no flags
  { id := 54, bytes := [0x0B#8], start := { af := 0x0100#16, bc := 0x0000#16 }, stop := { af := 0x0100#16, bc := 0xFFFF#16, pc := 0x0101#16 },
    ticks := 8, bus := [.read 0x0100#16 0x0B#8] },
  -- V55 (R194): ADD SP,-2
  { id := 55, bytes := [0xE8#8, 0xFE#8], stop := { af := 0x0130#16, sp := 0xFFFC#16, pc := 0x0102#16 },
    ticks := 16, bus := [.read 0x0100#16 0xE8#8, .read 0x0101#16 0xFE#8] },
  -- V56 (R194): ADD SP,+1: H and C
  { id := 56, bytes := [0xE8#8, 0x01#8], start := { sp := 0x00FF#16 }, stop := { af := 0x0130#16, sp := 0x0100#16, pc := 0x0102#16 },
    ticks := 16, bus := [.read 0x0100#16 0xE8#8, .read 0x0101#16 0x01#8] }]

theorem test_alu16_vectors : failing alu16Vectors = [] := by decide +kernel

/-- Control transfer (44_control.md). -/
def controlVectors : List Vector :=
  [
  -- V57 (R202): JP 0x8000
  { id := 57, bytes := [0xC3#8, 0x00#8, 0x80#8], stop := { pc := 0x8000#16 },
    ticks := 16, bus := [.read 0x0100#16 0xC3#8, .read 0x0101#16 0x00#8, .read 0x0102#16 0x80#8] },
  -- V58 (R203): JP NZ with Z=1: not taken
  { id := 58, bytes := [0xC2#8, 0x00#8, 0x80#8], start := { af := 0x0180#16 }, stop := { af := 0x0180#16, pc := 0x0103#16 },
    ticks := 12, bus := [.read 0x0100#16 0xC2#8, .read 0x0101#16 0x00#8, .read 0x0102#16 0x80#8] },
  -- V59 (R204): JP HL: no memory read at HL
  { id := 59, bytes := [0xE9#8], start := { hl := 0x4000#16 }, stop := { hl := 0x4000#16, pc := 0x4000#16 },
    ticks := 4, bus := [.read 0x0100#16 0xE9#8] },
  -- V60 (R205): JR -2: jumps to itself
  { id := 60, bytes := [0x18#8, 0xFE#8], stop := {},
    ticks := 12, bus := [.read 0x0100#16 0x18#8, .read 0x0101#16 0xFE#8] },
  -- V61 (R206): JR NC,+5 with C=0: taken (§8)
  { id := 61, bytes := [0x30#8, 0x05#8], start := { af := 0x0100#16 }, stop := { af := 0x0100#16, pc := 0x0107#16 },
    ticks := 12, bus := [.read 0x0100#16 0x30#8, .read 0x0101#16 0x05#8] },
  -- V62 (R206): JR NC,+5 with C=1: not taken (§8)
  { id := 62, bytes := [0x30#8, 0x05#8], start := { af := 0x0110#16 }, stop := { af := 0x0110#16, pc := 0x0102#16 },
    ticks := 8, bus := [.read 0x0100#16 0x30#8, .read 0x0101#16 0x05#8] }] ++
  [
  -- V63 (R207): CALL 0x1234
  { id := 63, bytes := [0xCD#8, 0x34#8, 0x12#8], stop := { sp := 0xFFFC#16, pc := 0x1234#16 },
    ticks := 24, bus := [.read 0x0100#16 0xCD#8, .read 0x0101#16 0x34#8, .read 0x0102#16 0x12#8, .write 0xFFFD#16 0x01#8, .write 0xFFFC#16 0x03#8] },
  -- V64 (R208): CALL C with C=0: not taken, no writes
  { id := 64, bytes := [0xDC#8, 0x34#8, 0x12#8], start := { af := 0x0100#16 }, stop := { af := 0x0100#16, pc := 0x0103#16 },
    ticks := 12, bus := [.read 0x0100#16 0xDC#8, .read 0x0101#16 0x34#8, .read 0x0102#16 0x12#8] },
  -- V65 (R209): RET
  { id := 65, bytes := [0xC9#8], start := { sp := 0xC000#16 }, mem := [(0xC000#16, 0x78#8), (0xC001#16, 0x56#8)], stop := { sp := 0xC002#16, pc := 0x5678#16 },
    ticks := 16, bus := [.read 0x0100#16 0xC9#8, .read 0xC000#16 0x78#8, .read 0xC001#16 0x56#8] },
  -- V66 (R210): RET Z with Z=1: taken
  { id := 66, bytes := [0xC8#8], start := { af := 0x0180#16, sp := 0xC000#16 }, mem := [(0xC000#16, 0x78#8), (0xC001#16, 0x56#8)], stop := { af := 0x0180#16, sp := 0xC002#16, pc := 0x5678#16 },
    ticks := 20, bus := [.read 0x0100#16 0xC8#8, .read 0xC000#16 0x78#8, .read 0xC001#16 0x56#8] },
  -- V67 (R210): RET Z with Z=0: not taken
  { id := 67, bytes := [0xC8#8], start := { af := 0x0100#16, sp := 0xC000#16 }, mem := [(0xC000#16, 0x78#8), (0xC001#16, 0x56#8)], stop := { af := 0x0100#16, sp := 0xC000#16, pc := 0x0101#16 },
    ticks := 8, bus := [.read 0x0100#16 0xC8#8] },
  -- V68 (R211): RETI: IME=1 at once
  { id := 68, bytes := [0xD9#8], start := { sp := 0xC000#16 }, mem := [(0xC000#16, 0x78#8), (0xC001#16, 0x56#8)], stop := { sp := 0xC002#16, pc := 0x5678#16, ime := true },
    ticks := 16, bus := [.read 0x0100#16 0xD9#8, .read 0xC000#16 0x78#8, .read 0xC001#16 0x56#8] }] ++
  [
  -- V69 (R212): RST 0x38
  { id := 69, bytes := [0xFF#8], stop := { sp := 0xFFFC#16, pc := 0x0038#16 },
    ticks := 16, bus := [.read 0x0100#16 0xFF#8, .write 0xFFFD#16 0x01#8, .write 0xFFFC#16 0x01#8] },
  -- V70 (R213): RET with SP=0xFFFF: the pop wraps
  { id := 70, bytes := [0xC9#8], start := { sp := 0xFFFF#16 }, mem := [(0x0000#16, 0x12#8), (0xFFFF#16, 0x34#8)], stop := { sp := 0x0001#16, pc := 0x1234#16 },
    ticks := 16, bus := [.read 0x0100#16 0xC9#8, .read 0xFFFF#16 0x34#8, .read 0x0000#16 0x12#8] }]

theorem test_control_vectors : failing controlVectors = [] := by decide +kernel

/-- Stack (45_stack.md). -/
def stackVectors : List Vector :=
  [
  -- V71 (R230): PUSH BC
  { id := 71, bytes := [0xC5#8], start := { bc := 0x1234#16 }, stop := { bc := 0x1234#16, sp := 0xFFFC#16, pc := 0x0101#16 },
    ticks := 16, bus := [.read 0x0100#16 0xC5#8, .write 0xFFFD#16 0x12#8, .write 0xFFFC#16 0x34#8] },
  -- V72 (R230): PUSH AF with SP=0x0001: writes 0x0000, then wraps to 0xFFFF
  { id := 72, bytes := [0xF5#8], start := { af := 0x12F0#16, sp := 0x0001#16 }, stop := { af := 0x12F0#16, sp := 0xFFFF#16, pc := 0x0101#16 },
    ticks := 16, bus := [.read 0x0100#16 0xF5#8, .write 0x0000#16 0x12#8, .write 0xFFFF#16 0xF0#8] },
  -- V73 (R232): POP AF: low nibble forced to 0
  { id := 73, bytes := [0xF1#8], start := { sp := 0xC000#16 }, mem := [(0xC000#16, 0x3F#8), (0xC001#16, 0x12#8)], stop := { af := 0x1230#16, sp := 0xC002#16, pc := 0x0101#16 },
    ticks := 12, bus := [.read 0x0100#16 0xF1#8, .read 0xC000#16 0x3F#8, .read 0xC001#16 0x12#8] }]

theorem test_stack_vectors : failing stackVectors = [] := by decide +kernel

/-- Accumulator rotates (46_rotates_a.md). -/
def rotatesAVectors : List Vector :=
  [
  -- V75 (R240): RLCA
  { id := 75, bytes := [0x07#8], start := { af := 0x85B0#16 }, stop := { af := 0x0B10#16, pc := 0x0101#16 },
    ticks := 4, bus := [.read 0x0100#16 0x07#8] },
  -- V76 (R240): RLCA of 0: Z=0
  { id := 76, bytes := [0x07#8], start := { af := 0x0080#16 }, stop := { af := 0x0000#16, pc := 0x0101#16 },
    ticks := 4, bus := [.read 0x0100#16 0x07#8] },
  -- V77 (R241): RRCA
  { id := 77, bytes := [0x0F#8], start := { af := 0x3BB0#16 }, stop := { af := 0x9D10#16, pc := 0x0101#16 },
    ticks := 4, bus := [.read 0x0100#16 0x0F#8] },
  -- V78 (R242): RLA: result 0, Z stays 0
  { id := 78, bytes := [0x17#8], start := { af := 0x8000#16 }, stop := { af := 0x0010#16, pc := 0x0101#16 },
    ticks := 4, bus := [.read 0x0100#16 0x17#8] },
  -- V79 (R243): RRA
  { id := 79, bytes := [0x1F#8], start := { af := 0x8100#16 }, stop := { af := 0x4010#16, pc := 0x0101#16 },
    ticks := 4, bus := [.read 0x0100#16 0x1F#8] }]

theorem test_rotatesA_vectors : failing rotatesAVectors = [] := by decide +kernel

/-- CB-prefixed (47_cb_prefixed.md). -/
def cbVectors : List Vector :=
  [
  -- V80 (R251): RLC B
  { id := 80, bytes := [0xCB#8, 0x00#8], start := { bc := 0x8013#16 }, stop := { af := 0x0110#16, bc := 0x0113#16, pc := 0x0102#16 },
    ticks := 8, bus := [.read 0x0100#16 0xCB#8, .read 0x0101#16 0x00#8] },
  -- V81 (R251): RLC A of 0: Z=1 (compare V76)
  { id := 81, bytes := [0xCB#8, 0x07#8], start := { af := 0x00B0#16 }, stop := { af := 0x0080#16, pc := 0x0102#16 },
    ticks := 8, bus := [.read 0x0100#16 0xCB#8, .read 0x0101#16 0x07#8] },
  -- V82 (R252): RLC (HL): read, then write
  { id := 82, bytes := [0xCB#8, 0x06#8], start := { hl := 0xC000#16 }, mem := [(0xC000#16, 0x81#8)], stop := { af := 0x0110#16, hl := 0xC000#16, pc := 0x0102#16 },
    ticks := 16, bus := [.read 0x0100#16 0xCB#8, .read 0x0101#16 0x06#8, .read 0xC000#16 0x81#8, .write 0xC000#16 0x03#8] },
  -- V83 (R253): RRC C
  { id := 83, bytes := [0xCB#8, 0x09#8], start := { bc := 0x0001#16 }, stop := { af := 0x0110#16, bc := 0x0080#16, pc := 0x0102#16 },
    ticks := 8, bus := [.read 0x0100#16 0xCB#8, .read 0x0101#16 0x09#8] },
  -- V84 (R255): RL C: result 0, Z=1
  { id := 84, bytes := [0xCB#8, 0x11#8], start := { af := 0x0100#16, bc := 0x0080#16 }, stop := { af := 0x0190#16, bc := 0x0000#16, pc := 0x0102#16 },
    ticks := 8, bus := [.read 0x0100#16 0xCB#8, .read 0x0101#16 0x11#8] },
  -- V85 (R257): RR D with C=1
  { id := 85, bytes := [0xCB#8, 0x1A#8], start := { af := 0x0110#16, de := 0x01D8#16 }, stop := { af := 0x0110#16, de := 0x80D8#16, pc := 0x0102#16 },
    ticks := 8, bus := [.read 0x0100#16 0xCB#8, .read 0x0101#16 0x1A#8] }] ++
  [
  -- V86 (R259): SLA E
  { id := 86, bytes := [0xCB#8, 0x23#8], start := { de := 0x0080#16 }, stop := { af := 0x0190#16, de := 0x0000#16, pc := 0x0102#16 },
    ticks := 8, bus := [.read 0x0100#16 0xCB#8, .read 0x0101#16 0x23#8] },
  -- V87 (R261): SRA H: bit 7 kept
  { id := 87, bytes := [0xCB#8, 0x2C#8], start := { hl := 0x814D#16 }, stop := { af := 0x0110#16, hl := 0xC04D#16, pc := 0x0102#16 },
    ticks := 8, bus := [.read 0x0100#16 0xCB#8, .read 0x0101#16 0x2C#8] },
  -- V88 (R263): SWAP A: C cleared
  { id := 88, bytes := [0xCB#8, 0x37#8], start := { af := 0xF010#16 }, stop := { af := 0x0F00#16, pc := 0x0102#16 },
    ticks := 8, bus := [.read 0x0100#16 0xCB#8, .read 0x0101#16 0x37#8] },
  -- V89 (R265): SRL A
  { id := 89, bytes := [0xCB#8, 0x3F#8], stop := { af := 0x0090#16, pc := 0x0102#16 },
    ticks := 8, bus := [.read 0x0100#16 0xCB#8, .read 0x0101#16 0x3F#8] },
  -- V90 (R267): BIT 7,H: bit set, Z=0, C preserved
  { id := 90, bytes := [0xCB#8, 0x7C#8], start := { af := 0x0110#16, hl := 0x9F4D#16 }, stop := { af := 0x0130#16, hl := 0x9F4D#16, pc := 0x0102#16 },
    ticks := 8, bus := [.read 0x0100#16 0xCB#8, .read 0x0101#16 0x7C#8] },
  -- V91 (R267): BIT 0,A: bit clear, Z=1
  { id := 91, bytes := [0xCB#8, 0x47#8], start := { af := 0xFE00#16 }, stop := { af := 0xFEA0#16, pc := 0x0102#16 },
    ticks := 8, bus := [.read 0x0100#16 0xCB#8, .read 0x0101#16 0x47#8] }] ++
  [
  -- V92 (R268): BIT 0,(HL): 12 ticks, no write
  { id := 92, bytes := [0xCB#8, 0x46#8], start := { hl := 0xC000#16 }, mem := [(0xC000#16, 0x01#8)], stop := { af := 0x0130#16, hl := 0xC000#16, pc := 0x0102#16 },
    ticks := 12, bus := [.read 0x0100#16 0xCB#8, .read 0x0101#16 0x46#8, .read 0xC000#16 0x01#8] },
  -- V93 (R269): RES 0,A
  { id := 93, bytes := [0xCB#8, 0x87#8], start := { af := 0xFFB0#16 }, stop := { af := 0xFEB0#16, pc := 0x0102#16 },
    ticks := 8, bus := [.read 0x0100#16 0xCB#8, .read 0x0101#16 0x87#8] },
  -- V94 (R272): SET 7,(HL)
  { id := 94, bytes := [0xCB#8, 0xFE#8], start := { hl := 0xC000#16 }, mem := [(0xC000#16, 0x00#8)], stop := { hl := 0xC000#16, pc := 0x0102#16 },
    ticks := 16, bus := [.read 0x0100#16 0xCB#8, .read 0x0101#16 0xFE#8, .read 0xC000#16 0x00#8, .write 0xC000#16 0x80#8] },
  -- V95 (R286): CB CB is SET 1,E
  { id := 95, bytes := [0xCB#8, 0xCB#8], start := { de := 0x0000#16 }, stop := { de := 0x0002#16, pc := 0x0102#16 },
    ticks := 8, bus := [.read 0x0100#16 0xCB#8, .read 0x0101#16 0xCB#8] }]

theorem test_cb_vectors : failing cbVectors = [] := by decide +kernel

/-- System (48_system.md). -/
def systemVectors : List Vector :=
  [
  -- V96 (R280): NOP
  { id := 96, bytes := [0x00#8], stop := { pc := 0x0101#16 },
    ticks := 4, bus := [.read 0x0100#16 0x00#8] },
  -- V97 (R281): HALT, IRQ_CONNECTED=false: halted for ever
  { id := 97, bytes := [0x76#8], stop := { pc := 0x0101#16, halted := true },
    ticks := 4, bus := [.read 0x0100#16 0x76#8] },
  -- V98 (R282): STOP: 2 bytes
  { id := 98, bytes := [0x10#8, 0x00#8], stop := { pc := 0x0102#16, stopped := true },
    ticks := 4, bus := [.read 0x0100#16 0x10#8, .read 0x0101#16 0x00#8] },
  -- V99 (R283): DI
  { id := 99, bytes := [0xF3#8], start := { ime := true }, stop := { pc := 0x0101#16 },
    ticks := 4, bus := [.read 0x0100#16 0xF3#8] },
  -- V100 (R284): EI: IME still 0
  { id := 100, bytes := [0xFB#8], stop := { pc := 0x0101#16, ei := true },
    ticks := 4, bus := [.read 0x0100#16 0xFB#8] },
  -- V102 (R285): unused 0xD3, ILLEGAL_OPCODE_MODE=NOP
  { id := 102, bytes := [0xD3#8], stop := { pc := 0x0101#16 },
    ticks := 4, bus := [.read 0x0100#16 0xD3#8] }]

theorem test_system_vectors : failing systemVectors = [] := by decide +kernel

/-- V44 to V47, V74 and V101: two instructions, the second dispatched when the first one's ticks are over. -/
def afterTwo (r : Regs) (bytes : List Byte) : Regs :=
  regsOf (next ((next ((startState r []).placeBytes 0x0100#16 bytes)).setCr 0))

theorem test_two_instruction_vectors :
    afterTwo { af := 0x45B0#16, bc := 0x3813#16 } [0x80#8, 0x27#8] = { af := 0x8300#16, bc := 0x3813#16, pc := 0x0102#16 } ∧
    afterTwo { af := 0x99B0#16, bc := 0x0113#16 } [0x80#8, 0x27#8] = { af := 0x0090#16, bc := 0x0113#16, pc := 0x0102#16 } ∧
    afterTwo { af := 0x42B0#16, bc := 0x1313#16 } [0x90#8, 0x27#8] = { af := 0x2940#16, bc := 0x1313#16, pc := 0x0102#16 } ∧
    afterTwo { af := 0x00B0#16, bc := 0x0113#16 } [0x90#8, 0x27#8] = { af := 0x9950#16, bc := 0x0113#16, pc := 0x0102#16 } ∧
    afterTwo { de := 0x1234#16 } [0xD5#8, 0xD1#8] = { de := 0x1234#16, pc := 0x0102#16 } ∧
    afterTwo {} [0xFB#8, 0x00#8] = { pc := 0x0102#16, ime := true } := by
  decide +kernel

/-! ## Ticks of the spec's sequences (95, part 3) -/

/-- A core constructed with these parameters and these bytes at its RESET_PC. -/
def machine (cfg : Config) (bytes : List Byte) : State :=
  (State.construct cfg (.plain [])).placeBytes (resetAddress cfg.resetPc) bytes

/-- RESET_PC = 0x0100, interrupts connected. -/
def irqOn : Config := { Config.default with resetPc := .at0100, irqConnected := true }

/-- RESET_PC = 0x0100, STOP's wake-up connected. -/
def wakeOn : Config := { Config.default with resetPc := .at0100, stopWakeConnected := true }

/-- RESET_PC = 0x0100, unused opcodes fatal. -/
def fatalMode : Config := { Config.default with resetPc := .at0100, illegalOpcodeMode := .fatal }

/-- RESET_PC = 0x0100, unused opcodes lock the core up. -/
def lockupMode : Config := { Config.default with resetPc := .at0100, illegalOpcodeMode := .lockup }

/-- MODEL = CGB, which is not supported. -/
def otherModel : Config := { Config.default with model := .other "CGB" }

/-- S1, ticks 1 and 2. -/
theorem test_S1_nop_then_countdown :
    let s := next (machine Config.default [0x00#8])
    s.pc = 0x0001#16 ∧ s.cr = 4 ∧ (next s).pc = 0x0001#16 ∧ (next s).cr = 3 := by
  decide +kernel

/-- S3, tick 1: the fault names the opcode and its address. -/
theorem test_S3_fatal :
    let s := next (machine fatalMode [0xD3#8])
    s.fault = .unimplementedOpcode 0xD3#8 0x0100#16 ∧ s.pc = 0x0101#16 ∧ next s = s := by
  decide +kernel

/-- S4, tick 1: locked, no fault. -/
theorem test_S4_lockup :
    let s := next (machine lockupMode [0xD3#8, 0x3C#8])
    s.locked = true ∧ s.fault = .none ∧ s.pc = 0x0101#16 ∧ next s = s := by
  decide +kernel

/-- S6, tick 1: HALT with a request and IME = 0. -/
theorem test_S6_halt_bug_is_set :
    let s := next { machine irqOn [0x76#8, 0x3C#8] with irqReq := 0b00001#5, a := 0x00#8 }
    s.haltBug = true ∧ s.halted = false ∧ s.pc = 0x0101#16 := by
  decide +kernel

/-- S6, ticks 5 and 9: INC A is read twice from one address. -/
theorem test_S6_halt_bug_reads_a_byte_twice :
    let s := next { machine irqOn [0x3C#8] with irqReq := 0b00001#5, a := 0x00#8, haltBug := true }
    let t := next (s.setCr 0)
    s.a = 0x01#8 ∧ s.pc = 0x0100#16 ∧ s.haltBug = false ∧ t.a = 0x02#8 ∧ t.pc = 0x0101#16 := by
  decide +kernel

/-- S7, tick 1: entry for the lowest requested line. -/
theorem test_S7_interrupt_entry :
    let s := next { machine irqOn [0x00#8] with irqReq := 0b00110#5, ime := true }
    s.pc = 0x0048#16 ∧ s.cr = 20 ∧ s.ime = false ∧ s.sp = 0xFFFC#16 ∧
      s.trace.reverse = [.write 0xFFFD#16 0x01#8, .write 0xFFFC#16 0x00#8, .irqAck 1] := by
  decide +kernel

/-- S8, ticks 6 and 7: the halted core waits, then wakes on the request the host drives. -/
theorem test_S8_halt_wakes_on_a_request :
    let s := { machine irqOn [] with halted := true, inputs := [⟨0b00000#5, false⟩, ⟨0b00001#5, false⟩] }
    (next s).halted = true ∧ (next s).cr = 0 ∧ (next (next s)).halted = false ∧ (next (next s)).cr = 4 := by
  decide +kernel

/-- S10, ticks 5 and 9: EI takes effect after one instruction. -/
theorem test_S10_ei_takes_effect_after_one_instruction :
    let s := next { machine irqOn [0x00#8] with irqReq := 0b00001#5, eiPending := true }
    s.ime = true ∧ s.eiPending = false ∧ s.pc = 0x0101#16 ∧ (next (s.setCr 0)).pc = 0x0040#16 := by
  decide +kernel

/-- R82's pseudocode, R307's list, 90 C9: with IME already 1, the boundary directly after EI accepts the request (log entry 22). -/
theorem test_ei_with_ime_set_does_not_delay_an_entry :
    let s := next { machine irqOn [0x00#8] with irqReq := 0b00001#5, ime := true, eiPending := true }
    s.pc = 0x0040#16 ∧ s.ime = false ∧ s.eiPending = false ∧ s.sp = 0xFFFC#16 := by
  decide +kernel

/-- S11, tick 5: DI at the boundary that applies EI. -/
theorem test_S11_di_after_ei :
    let s := next { machine irqOn [0xF3#8] with irqReq := 0b00001#5, eiPending := true }
    s.ime = false ∧ s.eiPending = false ∧ s.pc = 0x0101#16 := by
  decide +kernel

/-- S12, ticks 6 and 7: the stopped core waits for `stop_wake`. -/
theorem test_S12_stop_wakes_on_its_input :
    let s := { machine wakeOn [] with stopped := true, inputs := [⟨0b11111#5, false⟩, ⟨0b00000#5, true⟩] }
    (next s).stopped = true ∧ (next s).cr = 0 ∧ (next (next s)).stopped = false ∧ (next (next s)).cr = 4 := by
  decide +kernel

/-- S13, tick 5: the fault's address is the opcode's own, although PC did not move. -/
theorem test_S13_fault_address_after_the_halt_bug :
    let s := next { machine { fatalMode with irqConnected := true } [0xD3#8] with haltBug := true }
    s.fault = .unimplementedOpcode 0xD3#8 0x0100#16 ∧ s.pc = 0x0100#16 := by
  decide +kernel

/-! ## Memory and the host's placing of an instruction -/

/-- A canonical memory that lists the two ends of the address space. -/
def endsOfMemory : Memory := [(0x0000, 0x01#8), (0xFFFF, 0xFF#8)]

theorem test_memory_is_canonical : endsOfMemory.wf = true := by decide

/-- A byte out of the space, out of order, or equal to the unlisted one is not canonical. -/
theorem test_memory_not_canonical :
    Memory.wf [(0x10000, 0x01#8)] = false ∧ Memory.wf [(5, 0x01#8), (5, 0x02#8)] = false ∧ Memory.wf [(5, 0x00#8)] = false := by
  decide

/-- Writing the unlisted byte removes the entry; a new entry goes to its place in the order. -/
theorem test_memory_write :
    Memory.write endsOfMemory 0xFFFF 0x00#8 = [(0x0000, 0x01#8)] ∧
      Memory.write endsOfMemory 0x8000 0x80#8 = [(0x0000, 0x01#8), (0x8000, 0x80#8), (0xFFFF, 0xFF#8)] := by
  decide

/-- A host whose Memory is not a plain array (R6, R52): 0x0000 to 0x7FFF ignores writes, 0xFF00 to 0xFF7F is answered by the host,
byte by byte as listed, and the rest stores. -/
def platform : Mem :=
  ⟨[(0x0150, 0x5A#8)], [⟨0x0000#16, 0x7FFF#16, .rom⟩, ⟨0xFF00#16, 0xFF7F#16, .external⟩], [0x11#8, 0x22#8]⟩

/-- The core attached to that host. -/
def onPlatform : State := State.construct Config.default platform

/-- The bounds of the regions. -/
theorem test_behaviour_at_the_bounds :
    onPlatform.kindAt 0x0000#16 = .rom ∧ onPlatform.kindAt 0x7FFF#16 = .rom ∧ onPlatform.kindAt 0x8000#16 = .ram ∧
      onPlatform.kindAt 0xFEFF#16 = .ram ∧ onPlatform.kindAt 0xFF00#16 = .external ∧
      onPlatform.kindAt 0xFF7F#16 = .external ∧ onPlatform.kindAt 0xFF80#16 = .ram := by
  decide

/-- R52: a host that ignores a write; one that stores it; one that keeps the byte to itself. The transaction is made each time. -/
theorem test_writes_by_behaviour :
    (onPlatform.memWrite 0x0150#16 0x77#8).peek 0x0150#16 = 0x5A#8 ∧
      (onPlatform.memWrite 0x8000#16 0x77#8).peek 0x8000#16 = 0x77#8 ∧
      (onPlatform.memWrite 0xFF00#16 0x77#8).peek 0xFF00#16 = 0x00#8 ∧
      (onPlatform.memWrite 0x0150#16 0x77#8).trace = [.write 0x0150#16 0x77#8] := by
  decide

/-- R51, R62: reading an I/O address twice is not the same as reading it once. -/
theorem test_an_io_read_is_answered_by_the_host :
    let r := onPlatform.memRead 0xFF00#16
    r.1 = 0x11#8 ∧ (r.2.memRead 0xFF00#16).1 = 0x22#8 ∧ (onPlatform.memRead 0x0150#16).1 = 0x5A#8 ∧
      (onPlatform.memRead 0x0150#16).2.answers = [0x11#8, 0x22#8] := by
  decide

/-- LDH A,(a8) from ROM reads the I/O address: A is the host's answer, and the answer is used up. -/
theorem test_load_from_an_io_address :
    let t := next (onPlatform.withFetchWord 16 0x00F0)
    t.a = 0x11#8 ∧ t.answers = [0x22#8] ∧
      t.trace.reverse = [.read 0x0000#16 0xF0#8, .read 0x0001#16 0x00#8, .read 0xFF00#16 0x11#8] := by
  decide +kernel

/-- An instruction placed at an external address is what the next step fetches there. -/
theorem test_with_fetch_word_at_an_external_address :
    let t := next ((onPlatform.setPc 0xFF00#16).withFetchWord 16 0x423E)
    t.a = 0x42#8 ∧ t.pc = 0xFF02#16 ∧ t.answers = [0x11#8, 0x22#8] := by
  decide +kernel

/-- A table word placed after reset is what the next step runs: RES 0,A; STOP with its second byte; the prefix row. -/
theorem test_with_fetch_word :
    (next (State.reset.withFetchWord 16 0xCB87)).a = 0x00#8 ∧ (next (State.reset.withFetchWord 8 0x10)).stopped = true ∧
      (next (State.reset.withFetchWord 8 0xCB)).cr = 8 := by
  decide +kernel

/-- R286: PREFIX CB with SWAP A's byte runs SWAP A. -/
theorem test_prefix_meaning :
    (match exec (.prefixCb 0x37#8) (startState { af := 0xF010#16 } []) with
      | .next t => decide (t.af = 0x0F00#16) && decide (t.cr = 8)
      | _ => false) = true := by
  decide +kernel

/-- R319: the diagnostic read of the next instruction issues no transaction. -/
theorem test_peek_is_silent : (program [0x76#8]).peek 0x0100#16 = 0x76#8 ∧ (program [0x76#8]).trace = [] := by
  decide +kernel

/-! ## Witnesses: a state and operands that meet the hypotheses of each claim -/

theorem witness_DecodeAfterEncodeIsIdentity : (Instr.callCA16 0xFFFF#16).wellFormed = true := rfl

theorem witness_EncodeAfterDecodeIsIdentity :
    decode [0xDC#8, 0xFF#8, 0xFF#8, 0x76#8] = .ok (.callCA16 0xFFFF#16, [0x76#8]) := rfl

theorem witness_UnusedOpcodesAreTheElevenOfTheTable :
    decode [0xD3#8] = .ok (Instr.unused .xD3, []) ∧ decode [0xFD#8] = .ok (Instr.unused .xFD, []) := ⟨rfl, rfl⟩

theorem witness_ConstructionGivesTheResetValues :
    Config.default.model = .dmg ∧ otherModel.model = .other "CGB" := ⟨rfl, rfl⟩

theorem witness_UnsupportedModelNeverExecutes : otherModel.model = .other "CGB" := rfl

/-- Every behaviour, with answers left and with none. -/
theorem witness_MemoryReadAfterWrite :
    onPlatform.mem.wf = true ∧ onPlatform.kindAt 0xFFFF#16 = .ram ∧ onPlatform.kindAt 0x0000#16 = .rom ∧
      onPlatform.kindAt 0xFF7F#16 = .external ∧ onPlatform.answers = [0x11#8, 0x22#8] ∧
      State.kindAt { onPlatform with answers := [] } 0xFF00#16 = .external ∧ State.reset.regions = [] := by
  decide

/-- With no EI pending, on the last busy tick with EI pending and an interrupt requested, and at an external address. -/
theorem witness_StepRunsTheDecodedInstruction :
    (program [0xCD#8, 0x34#8, 0x12#8]).dispatches ∧ (program [0xCD#8, 0x34#8, 0x12#8]).haltBug = false ∧
      decode ((program [0xCD#8, 0x34#8, 0x12#8]).stream 0x0100#16 3) = .ok (.callA16 0x1234#16, []) ∧
      State.dispatches { machine irqOn [0x00#8] with cr := 1, eiPending := true, irqReq := 0b10000#5 } ∧
      (onPlatform.setPc 0xFF00#16).dispatches ∧ (onPlatform.setPc 0xFF00#16).stream 0xFF00#16 2 = [0x11#8, 0x22#8] := by
  refine ⟨⟨?_, ?_, ?_⟩, ?_, rfl, ⟨?_, ?_, ?_⟩, ⟨?_, ?_, ?_⟩, ?_⟩ <;> decide +kernel

theorem witness_HaltBugFetchDoesNotAdvancePc :
    State.dispatches { machine irqOn [0x3E#8] with haltBug := true, irqReq := 0b00001#5 } ∧
      (machine irqOn [0x3E#8]).answer 0x0100#16 = 0x3E#8 ∧
      ((machine irqOn [0x3E#8]).afterRead 0x0100#16).stream 0x0100#16 2 = [0x3E#8, 0x00#8] ∧
      decode [0x3E#8, 0x3E#8, 0x00#8] = .ok (.ldAD8 0x3E#8, [0x00#8]) := by
  refine ⟨⟨?_, ?_, ?_⟩, ?_, ?_, rfl⟩ <;> decide +kernel

theorem witness_BusyTicksOnlyCountDown :
    ((program []).setCr 24).dead = false ∧ 1 < ((program []).setCr 24).cr ∧ ((program []).setCr 24).inputs = [] ∧
      23 < ((program []).setCr 24).cr ∧ 1 < ((program []).setCr 2).cr := by
  decide +kernel

theorem witness_FaultedOrLockedCoreStaysAsItIs :
    ((program []).setFault (.unimplementedOpcode 0xD3#8 0x0100#16)).fault ≠ .none ∧
      ((program []).setLocked true).locked = true := by
  decide +kernel

theorem witness_StoppedAndHaltedCoresWaitForTheirWakeUp :
    ((machine wakeOn []).setStopped true).dead = false ∧ ((machine wakeOn []).setStopped true).cr ≤ 1 ∧
      ((machine wakeOn []).setStopped true).stopped = true ∧ (((machine irqOn []).setHalted true).setCr 1).dead = false ∧
      (((machine irqOn []).setHalted true).setCr 1).cr ≤ 1 ∧ (((machine irqOn []).setHalted true).setCr 1).stopped = false ∧
      (((machine irqOn []).setHalted true).setCr 1).halted = true := by
  decide +kernel

/-- Line 0 with every line requested, and line 4 alone. -/
theorem witness_InterruptEntryAtABoundary :
    let s := { machine irqOn [] with ime := true, irqReq := 0b11111#5 }
    let t := { machine irqOn [] with ime := true, cr := 1, inputs := [⟨0b10000#5, false⟩] }
    s.running = true ∧ s.cr ≤ 1 ∧ s.ime = true ∧ s.cfg.irqConnected = true ∧
      s.sampleInputs.irqReq.getLsbD (0 : Fin 5).val = true ∧
      (∀ m : Fin 5, m < 0 → s.sampleInputs.irqReq.getLsbD m.val = false) ∧
      t.running = true ∧ t.cr ≤ 1 ∧ t.ime = true ∧ t.cfg.irqConnected = true ∧
      t.sampleInputs.irqReq.getLsbD (4 : Fin 5).val = true ∧
      (∀ m : Fin 5, m < 4 → t.sampleInputs.irqReq.getLsbD m.val = false) := by
  decide +kernel

/-- A state with the halt bug pending and memory at both ends of the address space. -/
def haltBugState : State :=
  { State.construct irqOn (.plain endsOfMemory) with haltBug := true, irqReq := 0b00001#5, cr := 4 }

theorem haltBugState_inv : haltBugState.Inv := by
  constructor <;> simp [haltBugState, State.construct, State.powerOn, Mem.plain, irqOn, Config.default]
  decide

theorem witness_TickKeepsTheMachineInvariant :
    haltBugState.Inv ∧ step haltBugState = .next (haltBugState.setCr 3) :=
  ⟨haltBugState_inv, rfl⟩

theorem witness_ConstructionMeetsTheMachineInvariant : endsOfMemory.wf = true := by decide

theorem witness_CostIsTheTablesForEveryInstruction :
    exec .nop (program []) = .next ((program []).setCr 4) ∧
      exec (Instr.jpCond .nz 0xFFFF#16) (program []) = .next ((program []).setCr 12) ∧
      exec (Instr.jrCond .nc 0xFF#8) (program []) = .next ((program []).setCr 8) ∧
      exec (Instr.callCond .nz 0xFFFF#16) (program []) = .next ((program []).setCr 12) ∧
      exec (Instr.retCond .nc) (program []) = .next ((program []).setCr 8) :=
  ⟨rfl, rfl, rfl, rfl, rfl⟩

/-- Every clause has a state in which its instruction does change the field. -/
theorem witness_ControlStateHasOnlyItsWriters (s : State) :
    (exec .di (s.setIme true) = .next ((((s.setIme true).setIme false).setEiPending false).setCr 4)) ∧
      (exec .ei (s.setEiPending false) = .next (((s.setEiPending false).setEiPending true).setCr 4)) ∧
      (exec (.stop 0x00#8) (s.setStopped false) = .next (((s.setStopped false).setStopped true).setCr 4)) :=
  ⟨rfl, rfl, rfl⟩

theorem witness_ControlStateHasOnlyItsWriters_halt_and_unused :
    exec .halt (program []) = .next (((program []).setHalted true).setCr 4) ∧
      exec .halt { machine irqOn [] with irqReq := 0b00001#5 } =
        .next (State.setCr (State.setHaltBug { machine irqOn [] with irqReq := 0b00001#5 } true) 4) ∧
      exec (Instr.unused .xD3) (machine lockupMode []) = .next (((machine lockupMode []).setLocked true).setCr 4) ∧
      exec (Instr.unused .xD3) (machine fatalMode []) =
        .next (((machine fatalMode []).setFault (.unimplementedOpcode 0xD3#8 0x0000#16)).setCr 4) :=
  ⟨rfl, rfl, rfl, rfl⟩

theorem witness_StackPointerHasOnlyItsWriters :
    exec (.ldSpD16 0x1234#16) (program []) = .next (((program []).setSp 0x1234#16).setCr 12) ∧
      (((program []).setSp 0x1234#16).setCr 12).sp ≠ (program []).sp := by
  refine ⟨rfl, ?_⟩
  decide +kernel

theorem witness_FlagsHaveOnlyTheirWriters :
    ∃ t, exec .ccf (program []) = .next t ∧ t.f ≠ (program []).f := by
  refine ⟨_, rfl, ?_⟩
  decide +kernel

theorem witness_MemoryHasOnlyItsWriters : ¬ mayWriteMemory .nop ∧ exec .nop (program []) = .next ((program []).setCr 4) := by
  refine ⟨?_, rfl⟩
  rintro (h | ⟨r, h⟩ | ⟨n, h⟩ | ⟨a, h⟩ | ⟨n, h⟩ | ⟨a, h⟩ | ⟨op, h⟩ | ⟨n, h⟩ | ⟨n, h⟩ | ⟨p, h⟩ | ⟨a, h⟩ | ⟨cc, a, h⟩ | ⟨t, h⟩ | ⟨o, h⟩)
  · simp at h
  · cases r <;> cases h
  · cases h
  · cases h
  · cases h
  · cases h
  · cases op <;> cases h
  · fin_cases n <;> cases h
  · fin_cases n <;> cases h
  · cases p <;> cases h
  · cases h
  · cases cc <;> cases h
  · fin_cases t <;> cases h
  · cases h

/-- Each clause: a wake-up of each kind, and the entry into each wait, a lock-up and a fault. -/
theorem witness_WaitsAreLeftOnlyByTheirInputs :
    (next { machine irqOn [] with halted := true, irqReq := 0b10000#5 }).halted = false ∧
      (next { machine wakeOn [] with stopped := true, cr := 1, stopWake := true }).stopped = false ∧
      (program [0x76#8]).halted = false ∧ (next (program [0x76#8])).halted = true ∧
      (program [0x10#8, 0x00#8]).stopped = false ∧ (next (program [0x10#8, 0x00#8])).stopped = true ∧
      (next ((program []).setLocked true)).locked = true ∧
      (machine lockupMode [0xFD#8]).locked = false ∧ (next (machine lockupMode [0xFD#8])).locked = true ∧
      (machine fatalMode [0xFD#8]).fault = .none ∧ (next (machine fatalMode [0xFD#8])).fault ≠ .none := by
  decide +kernel

/-- A run that is over (halted, interrupts not connected) and one that is not. -/
theorem witness_RunIsOverExactlyWhenNoTickChangesAnything :
    ((program []).setHalted true).Inv ∧ ((program []).setHalted true).cr = 0 ∧ ((program []).setHalted true).inputs = [] ∧
      ((program []).setHalted true).runOver = true ∧ (program []).cr = 0 ∧ (program []).inputs = [] ∧
      (program []).runOver = false := by
  refine ⟨?_, ?_⟩
  · constructor <;> simp [program, startState, State.placeBytes, State.construct, State.powerOn, Mem.plain, Config.default, highByte,
      lowByte, Memory.wf, Memory.wfFrom, State.setHalted]
  · decide +kernel

theorem witness_UnconnectedInputsDoNotMatter :
    (program []).cfg.irqConnected = false ∧ (program []).cfg.stopWakeConnected = false ∧ (program []).inputs = [] ∧
      ∃ t, step (program []) = .next t :=
  ⟨rfl, rfl, rfl, _, rfl⟩

/-- The tuples of the claims over a list of rows: each is in its list, at the largest operands. -/
theorem witness_LoadsOfAReadTheirAddress (s : State) :
    ∀ i ∈ [Instr.ldAAtBc, .ldAAtDe, .ldAAtA16 0xFFFF#16, .ldhAAtC, .ldhAAtA8 0xFF#8], ∃ bytes addr cost,
      (i, bytes, addr, cost) ∈
        [(Instr.ldAAtBc, [0x0A#8], s.bc, 8), (.ldAAtDe, [0x1A#8], s.de, 8),
         (.ldAAtA16 0xFFFF#16, [0xFA#8, lowByte 0xFFFF#16, highByte 0xFFFF#16], 0xFFFF#16, 16),
         (.ldhAAtC, [0xF2#8], joinBytes 0xFF#8 s.c, 8), (.ldhAAtA8 0xFF#8, [0xF0#8, 0xFF#8], joinBytes 0xFF#8 0xFF#8, 12)] := by
  simp

theorem witness_StoresOfAWriteTheirAddress (s : State) :
    ∀ i ∈ [Instr.ldAtBcA, .ldAtDeA, .ldAtA16A 0xFFFF#16, .ldhAtCA, .ldhAtA8A 0xFF#8], ∃ bytes addr cost,
      (i, bytes, addr, cost) ∈
        [(Instr.ldAtBcA, [0x02#8], s.bc, 8), (.ldAtDeA, [0x12#8], s.de, 8),
         (.ldAtA16A 0xFFFF#16, [0xEA#8, lowByte 0xFFFF#16, highByte 0xFFFF#16], 0xFFFF#16, 16),
         (.ldhAtCA, [0xE2#8], joinBytes 0xFF#8 s.c, 8), (.ldhAtA8A 0xFF#8, [0xE0#8, 0xFF#8], joinBytes 0xFF#8 0xFF#8, 12)] := by
  simp

theorem witness_HlStepsAfterTheAccess (s : State) :
    (Instr.ldAAtHlDec, [0x3A#8], s.hl - 1#16) ∈ [(Instr.ldAAtHlInc, [0x2A#8], s.hl + 1#16), (.ldAAtHlDec, [0x3A#8], s.hl - 1#16)] ∧
      (Instr.ldAtHlDecA, [0x32#8], s.hl - 1#16) ∈
        [(Instr.ldAtHlIncA, [0x22#8], s.hl + 1#16), (.ldAtHlDecA, [0x32#8], s.hl - 1#16)] := by
  simp

theorem witness_LdPairImmLoadsTheWord : Pair.bc ≠ Pair.sp := by decide

theorem witness_PairStepsWrapAndWriteNoFlag : Pair.hl ≠ Pair.sp := by decide

theorem witness_LogicOperationsActBitByBit :
    AluOp.and ∈ [AluOp.and, .xor, .or] ∧ AluOp.xor ∈ [AluOp.and, .xor, .or] ∧ AluOp.or ∈ [AluOp.and, .xor, .or] := by
  decide

/-- The smallest and the largest decimals. -/
theorem witness_DaaCorrectsDecimalAdditionAndSubtraction :
    99 < 100 ∧ (startState { af := 0x9900#16 } []).a = bcd 99 ∧ 0 < 100 ∧ (startState { af := 0x0000#16 } []).a = bcd 0 := by
  decide +kernel

theorem witness_CplScfAndCcfWriteTheirFlags (s : State) :
    (Instr.ccf, 0x3F#8, s.a, false, false, !s.flagC) ∈
      [(Instr.cpl, 0x2F#8, BitVec.ofNat 8 (255 - s.a.toNat), true, true, s.flagC),
        (.scf, 0x37#8, s.a, false, false, true), (.ccf, 0x3F#8, s.a, false, false, !s.flagC)] := by
  simp

theorem witness_UnconditionalJumpsReachTheirTarget (s : State) :
    (Instr.jrE8 0x80#8, [0x18#8, 0x80#8], ((s.pc.toNat + (0x80#8).toInt) % 65536 : Int), 12) ∈
      [(Instr.jpA16 0xFFFF#16, [0xC3#8, lowByte 0xFFFF#16, highByte 0xFFFF#16], ((0xFFFF#16).toNat : Int), 16),
        (.jpHl, [0xE9#8], (s.hl.toNat : Int), 4),
        (.jrE8 0x80#8, [0x18#8, 0x80#8], (s.pc.toNat + (0x80#8).toInt) % 65536, 12)] := by
  simp

/-- The conditions both ways. -/
theorem witness_conditions_hold_and_fail :
    ((program []).setF 0x80#8).holds .z = true ∧ ((program []).setF 0x80#8).holds .nz = false ∧
      ((program []).setF 0x10#8).holds .c = true ∧ ((program []).setF 0x10#8).holds .nc = false := by
  decide +kernel

/-- The stack across the top of the address space. -/
theorem witness_PushThenPopMovesThePair :
    let s := startState { sp := 0x0001#16 } [(0xFFFF#16, 0xFF#8)]
    s.mem.wf = true ∧ s.kindAt (s.sp - 1#16) = .ram ∧ s.kindAt (s.sp - 2#16) = .ram := by
  decide

theorem witness_AccumulatorRotatesClearZero :
    (Instr.rra, 0x1F#8, ShiftOp.rr) ∈
      [(Instr.rlca, 0x07#8, ShiftOp.rlc), (.rrca, 0x0F#8, .rrc), (.rla, 0x17#8, .rl), (.rra, 0x1F#8, .rr)] := by
  simp

theorem witness_NopDiEiAndStopCompleteInFourTicks (s : State) :
    (Instr.stop 0xFF#8, [0x10#8, 0xFF#8], { s with stopped := true }) ∈
      [(Instr.nop, [0x00#8], s), (.di, [0xF3#8], { s with ime := false, eiPending := false }),
        (.ei, [0xFB#8], { s with eiPending := true }), (.stop 0xFF#8, [0x10#8, 0xFF#8], { s with stopped := true })] := by
  simp

theorem witness_HaltWaitsUnlessARequestIsPending :
    ((program []).cfg.irqConnected && (program []).irqReq != 0#5) = false ∧
      (irqOn.irqConnected && 0b10000#5 != 0#5) = true ∧ (program []).ime = false ∧ ((program []).setIme true).ime = true := by
  decide +kernel

theorem witness_UnusedOpcodesFollowTheirMode :
    (program []).cfg.illegalOpcodeMode = .nop ∧ (machine fatalMode []).cfg.illegalOpcodeMode = .fatal ∧
      (machine lockupMode []).cfg.illegalOpcodeMode = .lockup := ⟨rfl, rfl, rfl⟩

/-- R319: the zero byte at PC is the row NOP. -/
theorem test_decode_next_of_a_zero_byte : State.reset.decodeNext = some "NOP" := by decide

/-- 93 I20: a Memory with no side-effect-free peek has no `decode_next`. -/
theorem test_no_decode_next_without_a_peek : (onPlatform.setPc 0xFF00#16).decodeNext = none := by decide

end Sys2Proof.Tests
end

section
/-! PROOFS. Construction (R32, R302, R340), and one transaction with the memory (R51, R52, R64). -/

namespace Sys2Proof.Machine

/-! ## Construction -/

/-- R340 step 2: a core of the supported model starts with the values of R32. -/
theorem State.construct_dmg {cfg : Config} (h : cfg.model = .dmg) (mem : Mem) :
    State.construct cfg mem = State.powerOn cfg mem := by
  simp only [State.construct, h]

/-- The register pairs of R32, joined from their halves. -/
theorem State.powerOn_pairs (cfg : Config) (mem : Mem) :
    (State.powerOn cfg mem).af = 0x01B0#16 ∧ (State.powerOn cfg mem).bc = 0x0013#16 ∧
      (State.powerOn cfg mem).de = 0x00D8#16 ∧ (State.powerOn cfg mem).hl = 0x014D#16 := by
  simp only [State.af, State.readF, State.bc, State.de, State.hl, State.powerOn]
  decide

/-- R302: a core of another model names it in its fault register. -/
theorem State.construct_other_fault {cfg : Config} {name : String} (h : cfg.model = .other name) (mem : Mem) :
    (State.construct cfg mem).fault = .unsupportedModel (.other name) := by
  simp only [State.construct, h]

/-- Whatever the model, construction leaves no tick to count, no interrupt, wait or lock-up pending, and the memory and the
configuration it was given. -/
theorem State.construct_idle (cfg : Config) (mem : Mem) :
    let s := State.construct cfg mem
    s.cr = 0 ∧ s.ime = false ∧ s.eiPending = false ∧ s.halted = false ∧ s.stopped = false ∧ s.haltBug = false ∧
      s.locked = false ∧ s.mem = mem.contents ∧ s.regions = mem.regions ∧ s.answers = mem.answers ∧ s.cfg = cfg := by
  unfold State.construct
  split <;> exact ⟨rfl, rfl, rfl, rfl, rfl, rfl, rfl, rfl, rfl, rfl, rfl⟩

/-- Settles O7: the two models by their equations, and what they share. -/
theorem constructionGivesTheResetValues : Obligations.ConstructionGivesTheResetValues := by
  refine ⟨rfl, fun cfg mem => ⟨fun hdmg => ?_, fun name hother => State.construct_other_fault hother mem,
    State.construct_idle cfg mem⟩⟩
  obtain ⟨haf, hbc, hde, hhl⟩ := State.powerOn_pairs cfg mem
  rw [State.construct_dmg hdmg]
  exact ⟨haf, hbc, hde, hhl, rfl, rfl, rfl⟩

/-! ## Transactions -/

/-- A write changes memory and the trace alone (R52). -/
theorem State.memWrite_eq (s : State) (a : Word) (v : Byte) :
    s.memWrite a v = { s with mem := (s.memWrite a v).mem, trace := .write a v :: s.trace } :=
  rfl

/-- A read of an address that is not external answers the byte held, and only adds itself to the trace (R51). -/
theorem State.memRead_held {s : State} {a : Word} (h : s.kindAt a ≠ .external) :
    s.memRead a = (s.peek a, { s with trace := .read a (s.peek a) :: s.trace }) := by
  obtain ⟨hanswer, hafter⟩ := State.answer_held h
  simp only [State.memRead, State.afterRead, hanswer, hafter]

/-- A read of an external address answers the host's next byte, and uses it up (R51). -/
theorem State.memRead_external {s : State} {a : Word} {w : Byte} {rest : List Byte} (h : s.kindAt a = .external)
    (ha : s.answers = w :: rest) :
    s.memRead a = (w, { s with answers := rest, trace := .read a w :: s.trace }) := by
  obtain ⟨hanswer, hafter⟩ := State.answer_external h ha
  simp only [State.memRead, State.afterRead, hanswer, hafter]

/-- With no answer of the host left, a read answers some byte and leaves the answers as they are (log entry 21). -/
theorem State.memRead_no_answers {s : State} (a : Word) (ha : s.answers = []) :
    s.memRead a = (s.answer a, { s with trace := .read a (s.answer a) :: s.trace }) := by
  have hafter : s.answersAfter a = s.answers := by simp [State.answersAfter, ha]
  simp only [State.memRead, State.afterRead, hafter]

/-- A region decides for the addresses from its first to its last, both included. -/
theorem Region.holds_iff (r : Region) (a : Word) : r.holds a = true ↔ r.first ≤ a ∧ a ≤ r.last := by
  simp [Region.holds, BitVec.le_def]

/-- Where there is no region, an address is `ram`. -/
theorem State.kindAt_no_regions {s : State} (h : s.regions = []) (a : Word) : s.kindAt a = .ram := by
  simp only [State.kindAt, h, regionKind]

/-- The first region decides for its own addresses, and the regions after it for the others. -/
theorem State.kindAt_cons {s : State} {r : Region} {rest : List Region} (h : s.regions = r :: rest) (a : Word) :
    s.kindAt a = if r.first ≤ a ∧ a ≤ r.last then r.kind else State.kindAt { s with regions := rest } a := by
  simp only [State.kindAt, h, regionKind, Region.holds_iff]

/-- In a canonical memory, a byte written to `ram` is the byte the next read there is answered. -/
theorem State.memRead_memWrite_same {s : State} (a : Word) (v : Byte) (hwf : s.mem.wf = true) (h : s.kindAt a = .ram) :
    ((s.memWrite a v).memRead a).1 = v := by
  have hheld : (s.memWrite a v).kindAt a ≠ .external := by simp [h]
  rw [State.memRead_held hheld, State.peek_memWrite_same a v hwf h]

/-- Settles O9: each clause is the rule of one transaction at one behaviour. -/
theorem memoryReadAfterWrite : Obligations.MemoryReadAfterWrite := by
  intro s a v hwf
  refine ⟨fun hram => ⟨?_, ?_⟩, fun hnot => ?_, fun b hb => ?_, ?_, ?_, fun hheld => ?_, fun hext => ⟨fun w rest ha => ?_,
    fun ha => ?_⟩, fun hnone => ?_, fun r rest hr => ?_⟩
  · exact State.peek_memWrite_same a v hwf hram
  · exact State.memRead_memWrite_same a v hwf hram
  · exact State.peek_memWrite_not_ram v hnot a
  · exact State.peek_memWrite_other s v hb
  · exact State.wf_memWrite a v hwf
  · exact State.memWrite_eq s a v
  · exact State.memRead_held hheld
  · exact State.memRead_external hext ha
  · exact ⟨_, State.memRead_no_answers a ha⟩
  · exact State.kindAt_no_regions hnone a
  · exact State.kindAt_cons hr a

end Sys2Proof.Machine
end

section
/-! PROOFS. The levels on the two input ports (R33) are seen by the tick's own sampling, by an interrupt, a wake-up and HALT, and by
nothing else: every other operation commutes with replacing them. -/

namespace Sys2Proof.Machine

/-- The machine with these levels on its two input ports. -/
def State.withLevels (s : State) (lv : Inputs) : State :=
  { s with irqReq := lv.irqReq, stopWake := lv.stopWake }

/-- An answer with these levels on the ports of its next state. -/
def Result.withLevels (r : Result) (lv : Inputs) : Result :=
  match r with
  | .next t => .next (t.withLevels lv)
  | .fault e => .fault e
  | .refused e => .refused e

variable (s : State) (lv : Inputs)

/-! ## What is read does not depend on the levels -/

@[simp] theorem State.withLevels_a : (s.withLevels lv).a = s.a := rfl
@[simp] theorem State.withLevels_c : (s.withLevels lv).c = s.c := rfl
@[simp] theorem State.withLevels_sp : (s.withLevels lv).sp = s.sp := rfl
@[simp] theorem State.withLevels_pc : (s.withLevels lv).pc = s.pc := rfl
@[simp] theorem State.withLevels_eiPending : (s.withLevels lv).eiPending = s.eiPending := rfl
@[simp] theorem State.withLevels_halted : (s.withLevels lv).halted = s.halted := rfl
@[simp] theorem State.withLevels_stopped : (s.withLevels lv).stopped = s.stopped := rfl
@[simp] theorem State.withLevels_cfg : (s.withLevels lv).cfg = s.cfg := rfl
@[simp] theorem State.bc_withLevels : (s.withLevels lv).bc = s.bc := rfl
@[simp] theorem State.de_withLevels : (s.withLevels lv).de = s.de := rfl
@[simp] theorem State.hl_withLevels : (s.withLevels lv).hl = s.hl := rfl
@[simp] theorem State.flagZ_withLevels : (s.withLevels lv).flagZ = s.flagZ := rfl
@[simp] theorem State.flagN_withLevels : (s.withLevels lv).flagN = s.flagN := rfl
@[simp] theorem State.flagH_withLevels : (s.withLevels lv).flagH = s.flagH := rfl
@[simp] theorem State.flagC_withLevels : (s.withLevels lv).flagC = s.flagC := rfl
@[simp] theorem State.reg_withLevels (r : Reg) : (s.withLevels lv).reg r = s.reg r := rfl
@[simp] theorem State.pair_withLevels (p : Pair) : (s.withLevels lv).pair p = s.pair p := rfl
@[simp] theorem State.stackPair_withLevels (p : StackPair) : (s.withLevels lv).stackPair p = s.stackPair p := rfl
@[simp] theorem State.cond_withLevels (cc : Cond) : (s.withLevels lv).cond cc = s.cond cc := rfl
@[simp] theorem State.relativeTarget_withLevels (e : Byte) : (s.withLevels lv).relativeTarget e = s.relativeTarget e := rfl

/-! ## What is written leaves the levels -/

@[simp] theorem State.setReg_withLevels (r : Reg) (v : Byte) :
    (s.withLevels lv).setReg r v = (s.setReg r v).withLevels lv := by cases r <;> rfl
@[simp] theorem State.setPair_withLevels (p : Pair) (v : Word) :
    (s.withLevels lv).setPair p v = (s.setPair p v).withLevels lv := by cases p <;> rfl
@[simp] theorem State.setStackPair_withLevels (p : StackPair) (v : Word) :
    (s.withLevels lv).setStackPair p v = (s.setStackPair p v).withLevels lv := by cases p <;> rfl
@[simp] theorem State.setHl_withLevels (v : Word) : (s.withLevels lv).setHl v = (s.setHl v).withLevels lv := rfl
@[simp] theorem State.setFlags_withLevels (fl : Flags) : (s.withLevels lv).setFlags fl = (s.setFlags fl).withLevels lv := rfl
@[simp] theorem State.setSp_withLevels (v : Word) : (s.withLevels lv).setSp v = (s.setSp v).withLevels lv := rfl
@[simp] theorem State.setPc_withLevels (v : Word) : (s.withLevels lv).setPc v = (s.setPc v).withLevels lv := rfl
@[simp] theorem State.setIme_withLevels (v : Bool) : (s.withLevels lv).setIme v = (s.setIme v).withLevels lv := rfl
@[simp] theorem State.setEiPending_withLevels (v : Bool) :
    (s.withLevels lv).setEiPending v = (s.setEiPending v).withLevels lv := rfl
@[simp] theorem State.setHalted_withLevels (v : Bool) : (s.withLevels lv).setHalted v = (s.setHalted v).withLevels lv := rfl
@[simp] theorem State.setStopped_withLevels (v : Bool) :
    (s.withLevels lv).setStopped v = (s.setStopped v).withLevels lv := rfl
@[simp] theorem State.memRead_withLevels (a : Word) :
    (s.withLevels lv).memRead a = ((s.memRead a).1, (s.memRead a).2.withLevels lv) := rfl
@[simp] theorem State.memWrite_withLevels (a : Word) (v : Byte) :
    (s.withLevels lv).memWrite a v = (s.memWrite a v).withLevels lv := rfl
@[simp] theorem State.push16_withLevels (v : Word) : (s.withLevels lv).push16 v = (s.push16 v).withLevels lv := rfl
@[simp] theorem State.pop16_withLevels :
    (s.withLevels lv).pop16 = (s.pop16.1, s.pop16.2.withLevels lv) := rfl
@[simp] theorem State.alu_withLevels (op : AluOp) (v : Byte) :
    (s.withLevels lv).alu op v = (s.alu op v).withLevels lv := by
  unfold State.alu
  split <;> rfl
@[simp] theorem finish_withLevels (k : Nat) : finish k (s.withLevels lv) = (finish k s).withLevels lv := rfl

/-! ## The instructions -/

/-- R306: with `IRQ_CONNECTED = false` the core sees no request. -/
theorem State.irqLines_unconnected {s : State} (h : s.cfg.irqConnected = false) : s.irqLines = 0#5 := by
  simp [State.irqLines, h]

/-- R316: with `STOP_WAKE_CONNECTED = false` the core sees no wake-up. -/
theorem State.stopWakeLine_unconnected {s : State} (h : s.cfg.stopWakeConnected = false) : s.stopWakeLine = false := by
  simp [State.stopWakeLine, h]

/-- With requests not connected HALT waits (R281), whatever the levels. -/
theorem enterHalt_withLevels {s : State} (h : s.cfg.irqConnected = false) :
    enterHalt (s.withLevels lv) = (enterHalt s).withLevels lv := by
  have h' : (s.withLevels lv).irqLines = 0#5 := State.irqLines_unconnected h
  simp only [enterHalt_eq, h', State.irqLines_unconnected h, if_true, State.setHalted_withLevels, finish_withLevels]

theorem unusedOpcode_withLevels (op : UnusedOpcode) :
    unusedOpcode op (s.withLevels lv) = (unusedOpcode op s).withLevels lv := by
  rw [unusedOpcode_eq, unusedOpcode_eq, ← finish_withLevels, State.withLevels_cfg]
  cases s.cfg.illegalOpcodeMode <;> rfl

/-- A row that chooses by a condition chooses alike: the condition looks at F. -/
theorem jumpIf_withLevels (cc : Cond) (k k' : Nat) (a : Word) :
    jumpIf cc k k' a (s.withLevels lv) = (jumpIf cc k k' a s).withLevels lv := by
  rw [jumpIf_eq, jumpIf_eq]
  rfl

theorem callIf_withLevels (cc : Cond) (a : Word) : callIf cc a (s.withLevels lv) = (callIf cc a s).withLevels lv := by
  cases h : s.cond cc <;> simp [callIf, h, call]

theorem returnIf_withLevels (cc : Cond) : returnIf cc (s.withLevels lv) = (returnIf cc s).withLevels lv := by
  cases h : s.cond cc <;> simp [returnIf, h, returnPop]

/-! The eight extended forms, which row CB shares (R96, R286). -/

@[simp] theorem shiftReg_withLevels (op : ShiftOp) (r : Reg) :
    shiftReg op r (s.withLevels lv) = (shiftReg op r s).withLevels lv := by simp [shiftReg]
@[simp] theorem shiftAtHl_withLevels (op : ShiftOp) :
    shiftAtHl op (s.withLevels lv) = (shiftAtHl op s).withLevels lv := rfl
@[simp] theorem bitTestReg_withLevels (n : Fin 8) (r : Reg) :
    bitTestReg n r (s.withLevels lv) = (bitTestReg n r s).withLevels lv := rfl
@[simp] theorem bitTestAtHl_withLevels (n : Fin 8) :
    bitTestAtHl n (s.withLevels lv) = (bitTestAtHl n s).withLevels lv := rfl
@[simp] theorem bitResetReg_withLevels (n : Fin 8) (r : Reg) :
    bitResetReg n r (s.withLevels lv) = (bitResetReg n r s).withLevels lv := by simp [bitResetReg]
@[simp] theorem bitResetAtHl_withLevels (n : Fin 8) :
    bitResetAtHl n (s.withLevels lv) = (bitResetAtHl n s).withLevels lv := rfl
@[simp] theorem bitSetReg_withLevels (n : Fin 8) (r : Reg) :
    bitSetReg n r (s.withLevels lv) = (bitSetReg n r s).withLevels lv := by simp [bitSetReg]
@[simp] theorem bitSetAtHl_withLevels (n : Fin 8) :
    bitSetAtHl n (s.withLevels lv) = (bitSetAtHl n s).withLevels lv := rfl

/-- Every extended opcode runs one of the eight forms, and none of them looks at the levels. -/
theorem execExtended_withLevels (op2 : Byte) :
    execExtended op2 (s.withLevels lv) = (execExtended op2 s).withLevels lv := by
  rw [execExtended_eq, execExtended_eq]
  rcases decodeExtended_cases op2 with ⟨_, _, h⟩ | ⟨_, h⟩ | ⟨_, _, h⟩ | ⟨_, h⟩ | ⟨_, _, h⟩ | ⟨_, h⟩ | ⟨_, _, h⟩ | ⟨_, h⟩ <;>
    simp [h]

/-- With requests not connected, no instruction looks at the levels (R6, R306): HALT alone asks for a request. -/
theorem exec_withLevels (i : Instr) {s : State} (h : s.cfg.irqConnected = false) :
    exec i (s.withLevels lv) = Result.withLevels (exec i s) lv := by
  induction i using Instr.forms with
  | ldRegReg | ldRegImm | ldRegAtHl | ldAtHlReg | ldAtHlD8 | ldhAtA8A | ldAtA16A | ldhAAtA8 | ldAAtA16 | ldAtBcA | ldAAtBc
  | ldAtDeA | ldAAtDe | ldhAtCA | ldhAAtC | ldAtHlIncA | ldAAtHlInc | ldAtHlDecA | ldAAtHlDec =>
    simp [loadReg, loadImm, loadMem, storeMem, loadAAtHlThen, storeAAtHlThen]
  | ldPairImm | ldAtA16Sp | ldSpHl | ldHlSpE8 => simp [loadPair, storeSp, loadSpHl, loadHlSpOffset]
  | aluReg | aluAtHl | aluImm | incReg | decReg | incAtHl | decAtHl | daa | cpl | scf | ccf =>
    simp [aluReg, aluAtHl, aluImm, incReg, decReg, incAtHl, decAtHl, adjustDecimal, complementA, setCarry, complementCarry,
      State.readAtHl, State.writeAtHl]
  | addHlPair | incPair | decPair | addSpE8 => simp [addHl, incPair, decPair, addSp]
  | jrE8 | jpA16 | jpHl | callA16 | rst | ret | reti => simp [jump, call, returnPop, State.returnFromInterrupt]
  | jpCond | jrCond => simp [jumpIf_withLevels]
  | callCond => simp [callIf_withLevels]
  | retCond => simp [returnIf_withLevels]
  | push | pop => simp [pushPair, popPair]
  | rlca | rrca | rla | rra => simp [rotateA]
  | shiftReg | shiftAtHl | bitReg | bitAtHl | resReg | resAtHl | setReg | setAtHl => simp
  | prefixCb => simp [execExtended_withLevels]
  | nop | di | ei | stop => simp
  | halt => simp [enterHalt_withLevels lv h]
  | unused => simp [unusedOpcode_withLevels]

/-! ## The tick -/

@[simp] theorem State.applyEi_withLevels : (s.withLevels lv).applyEi = s.applyEi.withLevels lv := by
  cases h : s.eiPending <;> simp [State.applyEi, h]

theorem State.fetchOpcode_withLevels :
    (s.withLevels lv).fetchOpcode = (s.fetchOpcode.1, s.fetchOpcode.2.withLevels lv) := by
  cases h : s.haltBug with
  | false =>
    rw [State.fetchOpcode_eq h, State.fetchOpcode_eq (s := s.withLevels lv) h]
    rfl
  | true =>
    rw [State.fetchOpcode_haltBug h, State.fetchOpcode_haltBug (s := s.withLevels lv) h]
    rfl

theorem State.fetchBytes_withLevels (n : Nat) :
    (s.withLevels lv).fetchBytes n = ((s.fetchBytes n).1, (s.fetchBytes n).2.withLevels lv) := by
  induction n generalizing s with
  | zero => rfl
  | succ n ih =>
    have hfetch : (s.withLevels lv).fetch8 = (s.fetch8.1, s.fetch8.2.withLevels lv) := rfl
    simp only [State.fetchBytes, hfetch, ih]

theorem State.fetchInstr_withLevels :
    (s.withLevels lv).fetchInstr = (s.fetchInstr.1, s.fetchInstr.2.withLevels lv) := by
  simp only [State.fetchInstr, State.fetchOpcode_withLevels, State.fetchBytes_withLevels]

/-- A fetch leaves the configuration. -/
theorem State.fetchInstr_cfg : s.fetchInstr.2.cfg = s.cfg := by
  cases h : s.haltBug with
  | false => rw [State.fetchInstr_eq h]
  | true => rw [State.fetchInstr_haltBug h]

theorem dispatch_withLevels {s : State} (h : s.cfg.irqConnected = false) :
    dispatch (s.withLevels lv) = (dispatch s).withLevels lv := by
  have hfetched : s.fetchInstr.2.cfg.irqConnected = false := by rw [State.fetchInstr_cfg, h]
  simp only [dispatch, State.fetchInstr_withLevels]
  cases decode s.fetchInstr.1 with
  | ok r => exact exec_withLevels lv r.1 hfetched
  | error why => rfl

/-- With both inputs not connected a wait has no end and no interrupt is accepted (R306, R316). -/
theorem boundary_unconnected {s : State} (hirq : s.cfg.irqConnected = false) (hwake : s.cfg.stopWakeConnected = false) :
    boundary s = if s.stopped || s.halted then .next s else dispatch s.applyEi := by
  simp only [boundary, stoppedBoundary, haltedBoundary, State.acceptsInterrupt, State.irqLines_unconnected hirq,
    State.stopWakeLine_unconnected hwake]
  cases s.stopped <;> cases s.halted <;> simp

theorem boundary_withLevels {s : State} (hirq : s.cfg.irqConnected = false) (hwake : s.cfg.stopWakeConnected = false) :
    boundary (s.withLevels lv) = (boundary s).withLevels lv := by
  have happly : s.applyEi.cfg.irqConnected = false := by
    unfold State.applyEi
    split <;> simpa using hirq
  rw [boundary_unconnected hirq hwake, boundary_unconnected (s := s.withLevels lv) hirq hwake, State.applyEi_withLevels,
    dispatch_withLevels lv happly, State.withLevels_stopped, State.withLevels_halted]
  split <;> rfl

/-- With no coming levels listed, a tick's count leaves the levels as they are (log entry 3). -/
theorem State.countDown_no_inputs {s : State} (h : s.inputs = []) : s.countDown = s.setCr (s.cr - 1) := by
  simp only [State.countDown, State.sampleInputs, h]

theorem step_withLevels {s : State} (hirq : s.cfg.irqConnected = false) (hwake : s.cfg.stopWakeConnected = false)
    (hin : s.inputs = []) : step (s.withLevels lv) = Result.withLevels (step s) lv := by
  have hcount := State.countDown_no_inputs hin
  have hcount' : (s.withLevels lv).countDown = s.countDown.withLevels lv := by
    rw [hcount, State.countDown_no_inputs (s := s.withLevels lv) hin]
    rfl
  cases hd : s.dead with
  | true => rw [step_dead hd, step_dead (s := s.withLevels lv) hd]; rfl
  | false =>
    rcases Nat.lt_or_ge 1 s.cr with hbusy | hlast
    · rw [step_busy hd hbusy, step_busy (s := s.withLevels lv) hd hbusy, hcount']
      rfl
    · rw [step_boundary hd hlast, step_boundary (s := s.withLevels lv) hd hlast, hcount']
      exact boundary_withLevels lv (by rw [hcount]; exact hirq) (by rw [hcount]; exact hwake)

/-- Settles O26: a tick commutes with replacing the levels on the ports. -/
theorem unconnectedInputsDoNotMatter : Obligations.UnconnectedInputsDoNotMatter := by
  intro s t lv hirq hwake hin hstep
  have hcommute := step_withLevels lv hirq hwake hin
  rw [hstep] at hcommute
  exact hcommute

end Sys2Proof.Machine
end

section
/-! PROOFS. What an instruction can do to the state, said once: it goes through a chain of the machine's own updates, and each of the
state elements that only some instructions write (R24, R25, R28 to R30, R34) is updated only by its writers. -/

namespace Sys2Proof.Machine

/-! ## Updates within a permission -/

/-- The state elements that only some instructions write. -/
inductive Guarded where
  | flags | sp | memory | ime | eiPending | halted | haltBug | stopped | locked | fault

/-- The element is in `t` as it was in `s`; of memory, also that no write transaction was added. -/
def Guarded.Same (g : Guarded) (s t : State) : Prop :=
  match g with
  | .flags => t.f = s.f
  | .sp => t.sp = s.sp
  | .memory => t.mem = s.mem ∧ ∀ a v, .write a v ∈ t.trace → .write a v ∈ s.trace
  | .ime => t.ime = s.ime
  | .eiPending => t.eiPending = s.eiPending
  | .halted => t.halted = s.halted
  | .haltBug => t.haltBug = s.haltBug
  | .stopped => t.stopped = s.stopped
  | .locked => t.locked = s.locked
  | .fault => t.fault = s.fault

/-- `s` becomes the indexed state by the machine's own updates, which write a guarded element only where `may` allows it, and load
`cr` with at most 24 (R27). -/
inductive State.Becomes (may : Guarded → Prop) (s : State) : State → Prop
  | refl : State.Becomes may s s
  | setReg {t : State} {r : Reg} {v : Byte} : State.Becomes may s t → State.Becomes may s (t.setReg r v)
  | setPc {t : State} {v : Word} : State.Becomes may s t → State.Becomes may s (t.setPc v)
  | setCr {t : State} {k : Nat} : k ≤ 24 → State.Becomes may s t → State.Becomes may s (t.setCr k)
  | read {t : State} {a : Word} : State.Becomes may s t → State.Becomes may s (t.afterRead a)
  | setF {t : State} {v : Byte} : may .flags → State.Becomes may s t → State.Becomes may s (t.setF v)
  | setSp {t : State} {v : Word} : may .sp → State.Becomes may s t → State.Becomes may s (t.setSp v)
  | write {t : State} {a : Word} {v : Byte} : may .memory → State.Becomes may s t → State.Becomes may s (t.memWrite a v)
  | setIme {t : State} {v : Bool} : may .ime → State.Becomes may s t → State.Becomes may s (t.setIme v)
  | setEiPending {t : State} {v : Bool} : may .eiPending → State.Becomes may s t → State.Becomes may s (t.setEiPending v)
  | setHalted {t : State} {v : Bool} : may .halted → State.Becomes may s t → State.Becomes may s (t.setHalted v)
  | setHaltBug {t : State} {v : Bool} : may .haltBug → State.Becomes may s t → State.Becomes may s (t.setHaltBug v)
  | setStopped {t : State} {v : Bool} : may .stopped → State.Becomes may s t → State.Becomes may s (t.setStopped v)
  | setLocked {t : State} {v : Bool} : may .locked → State.Becomes may s t → State.Becomes may s (t.setLocked v)
  | setFault {t : State} {v : FaultRegister} : may .fault → State.Becomes may s t → State.Becomes may s (t.setFault v)

/-- The memory, F and `cr` are as the invariant wants them (R23, R27, R50). -/
structure State.DataInv (s : State) : Prop where
  memoryCanonical : s.mem.wf = true
  flagsLowNibbleZero : s.f &&& 0x0F#8 = 0#8
  crBounded : s.cr ≤ 24

section
variable {may : Guarded → Prop} {s t : State}

/-- A guarded element that may not be written stays: a write of it has no permission, and the other updates leave it. -/
theorem State.Becomes.same (h : s.Becomes may t) {g : Guarded} (hg : ¬ may g) : g.Same s t := by
  induction h with
  | refl => cases g <;> simp [Guarded.Same]
  | setReg _ ih | setPc _ ih | setCr _ _ ih | read _ ih => cases g <;> simpa [Guarded.Same] using ih
  | setF hm _ ih | setSp hm _ ih | write hm _ ih | setIme hm _ ih | setEiPending hm _ ih | setHalted hm _ ih
  | setHaltBug hm _ ih | setStopped hm _ ih | setLocked hm _ ih | setFault hm _ ih =>
    cases g <;> simp_all [Guarded.Same]

/-- The configuration, the ports, `opaddr` and the memory's behaviour stay. -/
theorem State.Becomes.fixed (h : s.Becomes may t) : t.cfg = s.cfg ∧ t.irqReq = s.irqReq ∧ t.stopWake = s.stopWake ∧
    t.inputs = s.inputs ∧ t.opcodeAddr = s.opcodeAddr ∧ t.regions = s.regions := by
  induction h with
  | refl => exact ⟨rfl, rfl, rfl, rfl, rfl, rfl⟩
  | setReg _ ih | setPc _ ih | setCr _ _ ih | read _ ih | setF _ _ ih | setSp _ _ ih | write _ _ ih | setIme _ _ ih
  | setEiPending _ _ ih | setHalted _ _ ih | setHaltBug _ _ ih | setStopped _ _ ih | setLocked _ _ ih | setFault _ _ ih =>
    simpa using ih

/-- The trace only grows, and the host's answers are used up by the external reads added to it (R51, R60). -/
theorem State.Becomes.transacts (h : s.Becomes may t) : ∃ evs, State.Transacts evs s t := by
  induction h with
  | refl => exact ⟨[], State.transacts_none rfl rfl⟩
  | read h ih =>
    obtain ⟨evs, ih⟩ := ih
    exact ⟨_, ih.trans (State.transacts_afterRead _ _) h.fixed.2.2.2.2.2⟩
  | write _ h ih =>
    obtain ⟨evs, ih⟩ := ih
    exact ⟨_, ih.trans (State.transacts_memWrite _ _ _) h.fixed.2.2.2.2.2⟩
  | setReg _ ih | setPc _ ih | setCr _ _ ih | setF _ _ ih | setSp _ _ ih | setIme _ _ ih | setEiPending _ _ ih
  | setHalted _ _ ih | setHaltBug _ _ ih | setStopped _ _ ih | setLocked _ _ ih | setFault _ _ ih =>
    obtain ⟨evs, ih⟩ := ih
    exact ⟨evs, ih.congr rfl rfl rfl (by simp) (by simp)⟩

/-- Memory stays canonical, F's low nibble 0, and `cr` at most 24. -/
theorem State.Becomes.dataInv (h : s.Becomes may t) (hs : s.DataInv) : t.DataInv := by
  induction h with
  | refl => exact hs
  | setCr hk _ ih => exact ⟨ih.memoryCanonical, ih.flagsLowNibbleZero, hk⟩
  | setF _ _ ih => exact ⟨ih.memoryCanonical, lowNibble_masked _, ih.crBounded⟩
  | write _ _ ih => exact ⟨State.wf_memWrite _ _ ih.memoryCanonical, ih.flagsLowNibbleZero, ih.crBounded⟩
  | setReg _ ih | setPc _ ih | read _ ih | setSp _ _ ih | setIme _ _ ih | setEiPending _ _ ih | setHalted _ _ ih
  | setHaltBug _ _ ih | setStopped _ _ ih | setLocked _ _ ih | setFault _ _ ih =>
    exact ⟨by simpa using ih.memoryCanonical, by simpa using ih.flagsLowNibbleZero, by simpa using ih.crBounded⟩

/-! ## The updates of pairs, the stack and the ALU -/

theorem State.Becomes.setHl {v : Word} (h : s.Becomes may t) : s.Becomes may (t.setHl v) :=
  .setReg (.setReg h)

theorem State.Becomes.setPair {p : Pair} {v : Word} (hsp : p = .sp → may .sp) (h : s.Becomes may t) :
    s.Becomes may (t.setPair p v) := by
  cases p with
  | bc | de =>
    simp only [State.setPair]
    exact .setReg (.setReg h)
  | hl => exact .setHl h
  | sp => exact .setSp (hsp rfl) h

theorem State.Becomes.setStackPair {p : StackPair} {v : Word} (haf : p = .af → may .flags) (h : s.Becomes may t) :
    s.Becomes may (t.setStackPair p v) := by
  cases p with
  | bc | de =>
    simp only [State.setStackPair]
    exact .setReg (.setReg h)
  | hl => exact .setHl h
  | af =>
    simp only [State.setStackPair]
    exact .setF (haf rfl) (.setReg h)

theorem State.Becomes.push16 {v : Word} (hsp : may .sp) (hm : may .memory) (h : s.Becomes may t) :
    s.Becomes may (t.push16 v) :=
  .write hm (.setSp hsp (.write hm (.setSp hsp h)))

theorem State.Becomes.pop16 (hsp : may .sp) (h : s.Becomes may t) : s.Becomes may t.pop16.2 :=
  .setSp hsp (.read (.setSp hsp (.read h)))

theorem State.Becomes.alu {op : AluOp} {v : Byte} (hf : may .flags) (h : s.Becomes may t) :
    s.Becomes may (t.alu op v) := by
  rw [State.alu_eq]
  split
  · exact .setF hf (.setReg h)
  · exact .setF hf h

/-! ## Meanings within a permission -/

/-- The meaning completes, and what it did is within `may`. -/
def Within (may : Guarded → Prop) (s : State) (r : Result) : Prop :=
  ∃ t, r = .next t ∧ s.Becomes may t

theorem Within.finish {k : Nat} (hk : k ≤ 24) (h : s.Becomes may t) : Within may s (finish k t) :=
  ⟨_, rfl, .setCr hk h⟩

theorem jumpIf_within {cc : Cond} {k k' : Nat} {a : Word} (hk : k ≤ 24) (hk' : k' ≤ 24) :
    Within may s (jumpIf cc k k' a s) := by
  rw [jumpIf_eq]
  exact .finish (by split <;> assumption) (.setPc .refl)

theorem call_within {k : Nat} {a : Word} (hk : k ≤ 24) (hsp : may .sp) (hm : may .memory) : Within may s (call k a s) :=
  .finish hk (.setPc (.push16 hsp hm .refl))

theorem callIf_within {cc : Cond} {a : Word} (hsp : may .sp) (hm : may .memory) : Within may s (callIf cc a s) := by
  unfold callIf
  split
  · exact call_within (by decide) hsp hm
  · exact .finish (by decide) .refl

theorem returnPop_within {k : Nat} (hk : k ≤ 24) (hsp : may .sp) : Within may s (returnPop k s) :=
  .finish hk (.setPc (.pop16 hsp .refl))

theorem returnIf_within {cc : Cond} (hsp : may .sp) : Within may s (returnIf cc s) := by
  unfold returnIf
  split
  · exact returnPop_within (by decide) hsp
  · exact .finish (by decide) .refl

theorem rotateA_within {op : ShiftOp} (hf : may .flags) : Within may s (rotateA op s) :=
  .finish (by decide) (.setF hf (.setReg .refl))

theorem shiftReg_within {op : ShiftOp} {r : Reg} (hf : may .flags) : Within may s (shiftReg op r s) :=
  .finish (by decide) (.setF hf (.setReg .refl))

theorem shiftAtHl_within {op : ShiftOp} (hf : may .flags) (hm : may .memory) : Within may s (shiftAtHl op s) :=
  .finish (by decide) (.setF hf (.write hm (.read .refl)))

theorem bitTestReg_within {n : Fin 8} {r : Reg} (hf : may .flags) : Within may s (bitTestReg n r s) :=
  .finish (by decide) (.setF hf .refl)

theorem bitTestAtHl_within {n : Fin 8} (hf : may .flags) : Within may s (bitTestAtHl n s) :=
  .finish (by decide) (.setF hf (.read .refl))

theorem bitResetReg_within {n : Fin 8} {r : Reg} : Within may s (bitResetReg n r s) :=
  .finish (by decide) (.setReg .refl)

theorem bitResetAtHl_within {n : Fin 8} (hm : may .memory) : Within may s (bitResetAtHl n s) :=
  .finish (by decide) (.write hm (.read .refl))

theorem bitSetReg_within {n : Fin 8} {r : Reg} : Within may s (bitSetReg n r s) :=
  .finish (by decide) (.setReg .refl)

theorem bitSetAtHl_within {n : Fin 8} (hm : may .memory) : Within may s (bitSetAtHl n s) :=
  .finish (by decide) (.write hm (.read .refl))

/-- Row CB writes what its eight forms write (R286). -/
theorem execExtended_within {op2 : Byte} (hf : may .flags) (hm : may .memory) : Within may s (execExtended op2 s) := by
  unfold execExtended
  split
  · exact shiftReg_within hf
  · exact shiftAtHl_within hf hm
  · exact bitTestReg_within hf
  · exact bitTestAtHl_within hf
  · exact bitResetReg_within
  · exact bitResetAtHl_within hm
  · exact bitSetReg_within
  · exact bitSetAtHl_within hm

theorem enterHalt_within (hh : may .halted) (hb : may .haltBug) : Within may s (enterHalt s) := by
  rw [enterHalt_eq]
  refine .finish (by decide) ?_
  split
  · exact .setHalted hh .refl
  · split
    · exact .refl
    · exact .setHaltBug hb .refl

theorem unusedOpcode_within {u : UnusedOpcode} (hl : may .locked) (hf : may .fault) :
    Within may s (unusedOpcode u s) := by
  rw [unusedOpcode_eq]
  refine .finish (by decide) ?_
  split
  · exact .refl
  · exact .setFault hf .refl
  · exact .setLocked hl .refl

end

/-! ## Every instruction within its own permission -/

/-- The guarded elements the spec lets an instruction write (R24, R25, R28 to R30, R34). -/
def mayWrite (i : Instr) : Guarded → Prop
  | .flags => mayWriteFlags i
  | .sp => mayWriteSp i
  | .memory => mayWriteMemory i
  | .ime => i = .di ∨ i = .reti
  | .eiPending => i = .ei ∨ i = .di
  | .halted => i = .halt
  | .haltBug => i = .halt
  | .stopped => ∃ x, i = .stop x
  | .locked => ∃ u, i = Instr.unused u
  | .fault => ∃ u, i = Instr.unused u

/-- A PUSH, a CALL or an RST may write SP and memory. -/
theorem mayWrite_stack {i : Instr} (h : (∃ p, i = Instr.push p) ∨ (∃ a, i = .callA16 a) ∨ (∃ cc a, i = Instr.callCond cc a) ∨
    ∃ t, i = Instr.rst t) : mayWrite i .sp ∧ mayWrite i .memory := by
  rcases h with ⟨_, rfl⟩ | ⟨_, rfl⟩ | ⟨_, _, rfl⟩ | ⟨_, rfl⟩ <;> simp [mayWrite, mayWriteSp, mayWriteMemory]

/-- Every instruction of every state completes, and writes a guarded element only if it is one of that element's writers. -/
theorem exec_within (i : Instr) (s : State) : Within (mayWrite i) s (exec i s) := by
  induction i using Instr.forms with
  | ldRegReg | ldRegImm =>
    simp only [exec_ldRegReg, exec_ldRegImm]
    exact .finish (by decide) (.setReg .refl)
  | ldRegAtHl | ldhAAtA8 | ldAAtA16 | ldAAtBc | ldAAtDe | ldhAAtC =>
    simp only [exec_ldRegAtHl, exec_ldhAAtA8, exec_ldAAtA16, exec_ldAAtBc, exec_ldAAtDe, exec_ldhAAtC]
    exact .finish (by decide) (.setReg (.read .refl))
  | ldAtHlReg | ldAtHlD8 | ldhAtA8A | ldAtA16A | ldAtBcA | ldAtDeA | ldhAtCA =>
    simp only [exec_ldAtHlReg, exec_ldAtHlD8, exec_ldhAtA8A, exec_ldAtA16A, exec_ldAtBcA, exec_ldAtDeA, exec_ldhAtCA]
    exact .finish (by decide) (.write (by simp [mayWrite, mayWriteMemory]) .refl)
  | ldAAtHlInc | ldAAtHlDec => exact .finish (by decide) (.setHl (.setReg (.read .refl)))
  | ldAtHlIncA | ldAtHlDecA => exact .finish (by decide) (.setHl (.write (by simp [mayWrite, mayWriteMemory]) .refl))
  | ldPairImm p v =>
    rw [exec_ldPairImm]
    exact .finish (by decide) (.setPair (by rintro rfl; simp [mayWrite, mayWriteSp, Instr.ldPairImm]) .refl)
  | ldAtA16Sp a =>
    have hm : mayWrite (.ldAtA16Sp a) .memory := by simp [mayWrite, mayWriteMemory]
    exact .finish (by decide) (.write hm (.write hm .refl))
  | ldSpHl => exact .finish (by decide) (.setSp (by simp [mayWrite, mayWriteSp]) .refl)
  | ldHlSpE8 => exact .finish (by decide) (.setF (by simp [mayWrite, mayWriteFlags]) (.setHl .refl))
  | aluReg | aluImm =>
    simp only [exec_aluReg, exec_aluImm]
    exact .finish (by decide) (.alu (by simp [mayWrite, mayWriteFlags]) .refl)
  | aluAtHl =>
    rw [exec_aluAtHl]
    exact .finish (by decide) (.alu (by simp [mayWrite, mayWriteFlags]) (.read .refl))
  | daa | cpl => exact .finish (by decide) (.setF (by simp [mayWrite, mayWriteFlags]) (.setReg .refl))
  | incReg | decReg =>
    simp only [exec_incReg, exec_decReg]
    exact .finish (by decide) (.setF (by simp [mayWrite, mayWriteFlags]) (.setReg .refl))
  | incAtHl | decAtHl =>
    exact .finish (by decide) (.setF (by simp [mayWrite, mayWriteFlags])
      (.write (by simp [mayWrite, mayWriteMemory]) (.read .refl)))
  | scf | ccf => exact .finish (by decide) (.setF (by simp [mayWrite, mayWriteFlags]) .refl)
  | addHlPair =>
    rw [exec_addHlPair]
    exact .finish (by decide) (.setF (by simp [mayWrite, mayWriteFlags]) (.setHl .refl))
  | incPair | decPair =>
    simp only [exec_incPair, exec_decPair]
    exact .finish (by decide)
      (.setPair (by rintro rfl; simp [mayWrite, mayWriteSp, Instr.incPair, Instr.decPair]) .refl)
  | addSpE8 =>
    exact .finish (by decide) (.setF (by simp [mayWrite, mayWriteFlags]) (.setSp (by simp [mayWrite, mayWriteSp]) .refl))
  | jrE8 | jpA16 | jpHl => exact .finish (by decide) (.setPc .refl)
  | jpCond | jrCond =>
    simp only [exec_jpCond, exec_jrCond]
    exact jumpIf_within (by decide) (by decide)
  | callA16 a =>
    obtain ⟨hsp, hm⟩ := mayWrite_stack (.inr (.inl ⟨a, rfl⟩))
    exact call_within (by decide) hsp hm
  | callCond cc a =>
    obtain ⟨hsp, hm⟩ := mayWrite_stack (.inr (.inr (.inl ⟨cc, a, rfl⟩)))
    rw [exec_callCond]
    exact callIf_within hsp hm
  | rst t =>
    obtain ⟨hsp, hm⟩ := mayWrite_stack (.inr (.inr (.inr ⟨t, rfl⟩)))
    rw [exec_rst]
    exact call_within (by decide) hsp hm
  | push p =>
    obtain ⟨hsp, hm⟩ := mayWrite_stack (.inl ⟨p, rfl⟩)
    rw [exec_push]
    exact .finish (by decide) (.push16 hsp hm .refl)
  | pop p =>
    rw [exec_pop]
    exact .finish (by decide) (.setStackPair (by rintro rfl; simp [mayWrite, mayWriteFlags, Instr.pop])
      (.pop16 (by simp [mayWrite, mayWriteSp]) .refl))
  | ret => exact returnPop_within (by decide) (by simp [mayWrite, mayWriteSp])
  | retCond =>
    rw [exec_retCond]
    exact returnIf_within (by simp [mayWrite, mayWriteSp])
  | reti => exact .finish (by decide) (.setIme (.inr rfl) (.setPc (.pop16 (by simp [mayWrite, mayWriteSp]) .refl)))
  | rlca | rrca | rla | rra => exact rotateA_within (by simp [mayWrite, mayWriteFlags])
  | shiftReg =>
    rw [exec_shiftReg]
    exact shiftReg_within (by simp [mayWrite, mayWriteFlags])
  | shiftAtHl =>
    rw [exec_shiftAtHl]
    exact shiftAtHl_within (by simp [mayWrite, mayWriteFlags]) (by simp [mayWrite, mayWriteMemory])
  | bitReg =>
    rw [exec_bitReg]
    exact bitTestReg_within (by simp [mayWrite, mayWriteFlags])
  | bitAtHl =>
    rw [exec_bitAtHl]
    exact bitTestAtHl_within (by simp [mayWrite, mayWriteFlags])
  | resReg =>
    rw [exec_resReg]
    exact bitResetReg_within
  | resAtHl =>
    rw [exec_resAtHl]
    exact bitResetAtHl_within (by simp [mayWrite, mayWriteMemory])
  | setReg =>
    rw [exec_setReg]
    exact bitSetReg_within
  | setAtHl =>
    rw [exec_setAtHl]
    exact bitSetAtHl_within (by simp [mayWrite, mayWriteMemory])
  | prefixCb => exact execExtended_within (by simp [mayWrite, mayWriteFlags]) (by simp [mayWrite, mayWriteMemory])
  | nop => exact .finish (by decide) .refl
  | di => exact .finish (by decide) (.setEiPending (.inr rfl) (.setIme (.inl rfl) .refl))
  | ei => exact .finish (by decide) (.setEiPending (.inl rfl) .refl)
  | stop x => exact .finish (by decide) (.setStopped ⟨x, rfl⟩ .refl)
  | halt => exact enterHalt_within rfl rfl
  | unused u =>
    rw [exec_unused]
    exact unusedOpcode_within ⟨u, rfl⟩ ⟨u, rfl⟩

/-- What an instruction did is within its permission. -/
theorem State.becomes_of_exec {i : Instr} {s t : State} (h : exec i s = .next t) : s.Becomes (mayWrite i) t := by
  obtain ⟨u, hu, hb⟩ := exec_within i s
  rw [h] at hu
  cases hu
  exact hb

/-- An element that an instruction changed is one it may write. -/
theorem mayWrite_of_not_same {i : Instr} {s t : State} {g : Guarded} (h : exec i s = .next t) (hg : ¬ g.Same s t) :
    mayWrite i g :=
  Classical.byContradiction fun hno => hg ((State.becomes_of_exec h).same hno)

/-! ## The writers of R24, R25, R28 to R30 and R34 -/

/-- Settles O20: every element by its permission. -/
theorem controlStateHasOnlyItsWriters : Obligations.ControlStateHasOnlyItsWriters := fun _ _ _ h =>
  ⟨mayWrite_of_not_same (g := .ime) h, mayWrite_of_not_same (g := .eiPending) h, mayWrite_of_not_same (g := .halted) h,
    mayWrite_of_not_same (g := .haltBug) h, mayWrite_of_not_same (g := .stopped) h, mayWrite_of_not_same (g := .locked) h,
    mayWrite_of_not_same (g := .fault) h, (State.becomes_of_exec h).fixed⟩

/-- Settles O21. -/
theorem stackPointerHasOnlyItsWriters : Obligations.StackPointerHasOnlyItsWriters := fun _ _ _ h =>
  mayWrite_of_not_same (g := .sp) h

/-- Settles O22. -/
theorem flagsHaveOnlyTheirWriters : Obligations.FlagsHaveOnlyTheirWriters := fun _ _ _ h =>
  mayWrite_of_not_same (g := .flags) h

/-- Settles O23: a chain of updates only adds transactions, and writes none without the permission. -/
theorem memoryHasOnlyItsWriters : Obligations.MemoryHasOnlyItsWriters := by
  intro i s t h
  have hb := State.becomes_of_exec h
  refine ⟨hb.transacts, fun hno => ?_⟩
  obtain ⟨hmem, htrace⟩ := hb.same (g := .memory) hno
  exact ⟨State.peek_of_mem hmem, htrace⟩

end Sys2Proof.Machine
end

section
/-! PROOFS. The invariant of the machine: construction meets it, and every tick keeps it. A tick that dispatches no instruction
begins no wait, lock-up, fault or halt bug; what an instruction begins is fixed by the element's writers. -/

namespace Sys2Proof.Machine

/-! ## Construction -/

/-- F's low nibble is 0 whatever the model, and a model other than DMG is the fault (R23, R302). -/
theorem State.construct_flags_fault (cfg : Config) (mem : Mem) : (State.construct cfg mem).f &&& 0x0F#8 = 0#8 ∧
    (State.construct cfg mem).fault = if cfg.model = .dmg then .none else .unsupportedModel cfg.model := by
  unfold State.construct
  cases cfg.model with
  | dmg => exact ⟨by simp [State.powerOn], rfl⟩
  | other name => exact ⟨lowNibble_masked _, rfl⟩

/-- No wait, lock-up or halt bug at construction, F masked, and the fault that of another model alone. -/
theorem State.construct_inv (cfg : Config) {mem : Mem} (hwf : mem.contents.wf = true) : (State.construct cfg mem).Inv := by
  obtain ⟨hcr, -, -, hhalted, -, hbug, hlocked, hmem, -, -, hcfg⟩ := State.construct_idle cfg mem
  obtain ⟨hf, hfault⟩ := State.construct_flags_fault cfg mem
  refine ⟨hmem ▸ hwf, hf, by simp [hcr], by simp [hbug], by simp [hhalted], by simp [hlocked], ?_, fun m => ?_⟩
  · rw [hfault]
    split <;> simp
  · rw [hfault, hcfg]
    by_cases hdmg : cfg.model = .dmg
    · simp [hdmg, eq_comm]
    · simp only [hdmg, if_false, FaultRegister.unsupportedModel.injEq]
      exact ⟨fun hm => ⟨hm, hm ▸ hdmg⟩, And.left⟩

/-- Settles O18: reset is a construction, over the empty memory. -/
theorem constructionMeetsTheMachineInvariant : Obligations.ConstructionMeetsTheMachineInvariant :=
  ⟨State.construct_inv Config.default (mem := .plain []) Memory.wf_nil, fun cfg _ => State.construct_inv cfg⟩

/-! ## The parts of the invariant -/

variable {s t : State}

theorem State.Inv.data (h : s.Inv) : s.DataInv :=
  ⟨h.memoryCanonical, h.flagsLowNibbleZero, h.crBounded⟩

/-- From `s` to `t` no wait, lock-up, fault or halt bug begins, and a halt bug that is still pending is still masked. -/
structure State.BeginsNothing (s t : State) : Prop where
  cfg : t.cfg = s.cfg
  fault : t.fault = s.fault
  locked : t.locked = s.locked
  halted : t.halted = true → s.halted = true
  stopped : t.stopped = true → s.stopped = true
  haltBug : t.haltBug = true → s.haltBug = true
  masked : s.ime = false → s.eiPending = false → t.ime = false ∧ t.eiPending = false

/-- Where nothing begins, the invariant is kept if its part about the data is. -/
theorem State.Inv.of_beginsNothing (h : s.Inv) (hd : t.DataInv) (hn : s.BeginsNothing t) : t.Inv := by
  obtain ⟨hcfg, hfault, hlocked, hhalted, hstopped, hbug, hmasked⟩ := hn
  have hh : s.halted = false → t.halted = false := fun e => by simpa [e] using hhalted
  have hs : s.stopped = false → t.stopped = false := fun e => by simpa [e] using hstopped
  refine ⟨hd.memoryCanonical, hd.flagsLowNibbleZero, hd.crBounded, fun hb => ?_, fun hw => hs (h.oneWait (hhalted hw)),
    fun hl => ?_, ?_, ?_⟩
  · obtain ⟨hime, hei, hnh, hns, hnl, hirq⟩ := h.haltBugOnlyMasked (hbug hb)
    obtain ⟨hime', hei'⟩ := hmasked hime hei
    exact ⟨hime', hei', hh hnh, hs hns, hlocked ▸ hnl, hcfg ▸ hirq⟩
  · rw [hlocked] at hl
    obtain ⟨hmode, hnh, hns⟩ := h.lockedOnlyInLockup hl
    exact ⟨hcfg ▸ hmode, hh hnh, hs hns⟩
  · rw [hfault, hcfg]
    exact h.faultOnlyInFatal
  · rw [hfault, hcfg]
    exact h.modelFault

/-! ## Ticks that dispatch nothing -/

/-- The count of a tick keeps the invariant. -/
theorem State.Inv.countDown (h : s.Inv) : s.countDown.Inv := by
  rw [State.countDown, State.sampleInputs_eq]
  have hcr : s.cr - 1 ≤ 24 := Nat.le_trans (Nat.sub_le _ _) h.crBounded
  exact h.of_beginsNothing ⟨h.memoryCanonical, h.flagsLowNibbleZero, hcr⟩
    ⟨rfl, rfl, rfl, id, id, id, .intro⟩

theorem State.Inv.wakeFromStop (h : s.Inv) : ((s.setStopped false).setCr 4).Inv :=
  h.of_beginsNothing ⟨h.memoryCanonical, h.flagsLowNibbleZero, by simp⟩ ⟨rfl, rfl, rfl, id, nofun, id, .intro⟩

theorem State.Inv.wakeFromHalt (h : s.Inv) : ((s.setHalted false).setCr 4).Inv :=
  h.of_beginsNothing ⟨h.memoryCanonical, h.flagsLowNibbleZero, by simp⟩ ⟨rfl, rfl, rfl, nofun, id, id, .intro⟩

theorem State.Inv.interruptEntry (h : s.Inv) (n : Fin 5) : (s.interruptEntry n).Inv := by
  rw [State.interruptEntry_eq]
  have hmem := State.wf_memWrite (s.sp - 2#16) (lowByte s.pc) (State.wf_memWrite (s.sp - 1#16) (highByte s.pc) h.memoryCanonical)
  refine h.of_beginsNothing ⟨hmem, by simpa using h.flagsLowNibbleZero, by simp⟩ ?_
  constructor <;> simp

theorem State.Inv.applyEi (h : s.Inv) : s.applyEi.Inv := by
  unfold State.applyEi
  split
  · next hei =>
    exact h.of_beginsNothing ⟨h.memoryCanonical, h.flagsLowNibbleZero, h.crBounded⟩
      ⟨rfl, rfl, rfl, id, id, id, fun _ hno => absurd (hei.symm.trans hno) nofun⟩
  · exact h

/-! ## Dispatch -/

/-- No wait, lock-up, fault or halt bug, and no EI waiting to be applied: how an instruction finds the machine. -/
structure State.Clear (s : State) : Prop where
  fault : s.fault = .none
  locked : s.locked = false
  halted : s.halted = false
  stopped : s.stopped = false
  haltBug : s.haltBug = false
  eiPending : s.eiPending = false

/-- A fetch ends the halt bug (R83), and moves PC and `opaddr` and makes its reads, nothing else. -/
theorem State.fetchInstr_frame (s : State) : ∃ pc answers trace, s.fetchInstr.2 =
    { s with haltBug := false, opcodeAddr := s.pc, pc := pc, answers := answers, trace := trace } := by
  cases h : s.haltBug with
  | false =>
    rw [State.fetchInstr_eq h, ← h]
    exact ⟨_, _, _, rfl⟩
  | true =>
    rw [State.fetchInstr_haltBug h]
    exact ⟨_, _, _, rfl⟩

theorem State.Inv.fetchInstr (h : s.Inv) : s.fetchInstr.2.Inv := by
  obtain ⟨_, _, _, he⟩ := s.fetchInstr_frame
  rw [he]
  exact h.of_beginsNothing ⟨h.memoryCanonical, h.flagsLowNibbleZero, h.crBounded⟩ ⟨rfl, rfl, rfl, id, id, nofun, .intro⟩

/-- Applying EI leaves none pending, and no wait, lock-up or fault changed. -/
theorem State.applyEi_frame (s : State) : s.applyEi.eiPending = false ∧ s.applyEi.fault = s.fault ∧
    s.applyEi.locked = s.locked ∧ s.applyEi.halted = s.halted ∧ s.applyEi.stopped = s.stopped := by
  cases h : s.eiPending <;> simp [State.applyEi, h]

/-- A running core, its EI applied and its instruction fetched, is clear. -/
theorem State.clear_fetchInstr (hd : s.dead = false) (hs : s.stopped = false) (hh : s.halted = false) :
    s.applyEi.fetchInstr.2.Clear := by
  obtain ⟨hfault, hlocked⟩ : s.fault = .none ∧ s.locked = false := by simpa [State.dead] using hd
  obtain ⟨hei', hfault', hlocked', hhalted', hstopped'⟩ := s.applyEi_frame
  obtain ⟨_, _, _, he⟩ := s.applyEi.fetchInstr_frame
  rw [he]
  exact ⟨hfault'.trans hfault, hlocked'.trans hlocked, hhalted'.trans hh, hstopped'.trans hs, rfl, hei'⟩

/-- HALT leaves the halt bug pending only where it masks a request that the core sees (R281). -/
theorem exec_halt_haltBug (hbug : s.haltBug = false) (he : exec .halt s = .next t) (ht : t.haltBug = true) :
    t = (s.setHaltBug true).setCr 4 ∧ s.ime = false ∧ s.cfg.irqConnected = true := by
  rw [exec_halt, enterHalt_eq] at he
  obtain rfl := Host.Outcome.next.inj he
  by_cases hreq : s.irqLines = 0#5
  · simp [hreq, hbug] at ht
  · cases hime : s.ime with
    | true => simp [hreq, hime, hbug] at ht
    | false =>
      have hirq : s.cfg.irqConnected ≠ false := fun hno => hreq (State.irqLines_unconnected hno)
      simpa [hreq] using hirq

/-- The three modes of an unused opcode (R285). -/
theorem exec_unused_cases {u : UnusedOpcode} (he : exec (Instr.unused u) s = .next t) :
    t = s.setCr 4 ∨
    (s.cfg.illegalOpcodeMode = .fatal ∧ t = (s.setFault (.unimplementedOpcode u.byte s.opcodeAddr)).setCr 4) ∨
    (s.cfg.illegalOpcodeMode = .lockup ∧ t = (s.setLocked true).setCr 4) := by
  rw [exec_unused, unusedOpcode_eq] at he
  obtain rfl := Host.Outcome.next.inj he
  cases s.cfg.illegalOpcodeMode <;> simp

/-- From a clear state an instruction keeps the invariant: a wait, lock-up, fault or halt bug that holds after it began with it, so
the instruction is that element's writer. -/
theorem State.Inv.of_exec (h : s.Inv) (hc : s.Clear) {i : Instr} (he : exec i s = .next t) : t.Inv := by
  obtain ⟨hfault, hlocked, hhalted, hstopped, hbug, hei⟩ := hc
  obtain ⟨hmem, hf, hcr⟩ := (State.becomes_of_exec he).dataInv h.data
  obtain ⟨-, -, haltedOf, bugOf, stoppedOf, lockedOf, faultOf, hcfg, -⟩ := controlStateHasOnlyItsWriters i s t he
  refine ⟨hmem, hf, hcr, fun ht => ?haltBug, fun ht => ?wait, fun ht => ?locked, fun op addr ht => ?fatal, fun m => ?model⟩
  case haltBug =>
    obtain rfl := bugOf (by simp [ht, hbug])
    obtain ⟨rfl, hime, hirq⟩ := exec_halt_haltBug hbug he ht
    exact ⟨hime, hei, hhalted, hstopped, hlocked, hirq⟩
  case wait =>
    obtain rfl := haltedOf (by simp [ht, hhalted])
    by_contra hne
    exact nomatch stoppedOf (hstopped ▸ hne)
  case locked =>
    obtain ⟨u, rfl⟩ := lockedOf (by simp [ht, hlocked])
    rcases exec_unused_cases he with rfl | ⟨-, rfl⟩ | ⟨hmode, rfl⟩
    · simp [hlocked] at ht
    · simp [hlocked] at ht
    · exact ⟨hmode, hhalted, hstopped⟩
  case fatal =>
    obtain ⟨u, rfl⟩ := faultOf (by simp [ht, hfault])
    rcases exec_unused_cases he with rfl | ⟨hmode, rfl⟩ | ⟨-, rfl⟩
    · simp [hfault] at ht
    · obtain ⟨rfl, -⟩ := FaultRegister.unimplementedOpcode.inj ht
      exact ⟨hmode, u, rfl⟩
    · simp [hfault] at ht
  case model =>
    have hsupported : ¬ (s.cfg.model = m ∧ m ≠ .dmg) := by simp [← h.modelFault m, hfault]
    rw [hcfg]
    refine ⟨fun ht => ?_, fun hm => absurd hm hsupported⟩
    obtain ⟨u, rfl⟩ := faultOf (by simp [ht, hfault])
    rcases exec_unused_cases he with rfl | ⟨-, rfl⟩ | ⟨-, rfl⟩ <;> simp [hfault] at ht

theorem State.Inv.of_dispatch (h : s.Inv) (hc : s.fetchInstr.2.Clear) (he : dispatch s = .next t) : t.Inv := by
  unfold dispatch at he
  cases hdec : decode s.fetchInstr.1 with
  | ok r =>
    simp only [hdec] at he
    exact h.fetchInstr.of_exec hc he
  | error why => simp [hdec] at he

/-- The boundary action of a live core keeps the invariant. -/
theorem State.Inv.of_boundary (h : s.Inv) (hd : s.dead = false) (he : boundary s = .next t) : t.Inv := by
  unfold boundary stoppedBoundary haltedBoundary at he
  cases hs : s.stopped with
  | true =>
    rw [if_pos hs] at he
    split at he <;> cases he
    · exact h.wakeFromStop
    · exact h
  | false =>
    cases hh : s.halted with
    | true =>
      simp only [hs, hh, Bool.false_eq_true, if_false, if_true] at he
      split at he <;> cases he
      · exact h.wakeFromHalt
      · exact h
    | false =>
      simp only [hs, hh, Bool.false_eq_true, if_false] at he
      split at he
      · cases he
        exact h.interruptEntry _
      · exact h.applyEi.of_dispatch (State.clear_fetchInstr hd hs hh) he

/-- Settles O17: a dead core stays, a busy one counts, and the others take the boundary action. -/
theorem tickKeepsTheMachineInvariant : Obligations.TickKeepsTheMachineInvariant := by
  intro s t h he
  cases hd : s.dead with
  | true =>
    rw [step_dead hd] at he
    cases he
    exact h
  | false =>
    rcases Nat.lt_or_ge 1 s.cr with hbusy | hlast
    · rw [step_busy hd hbusy] at he
      cases he
      exact h.countDown
    · rw [step_boundary hd hlast] at he
      have hlive : s.countDown.dead = false := by
        rw [State.countDown, State.sampleInputs_eq]
        exact hd
      exact h.countDown.of_boundary hlive he

end Sys2Proof.Machine
end

section
/-! PROOFS. The busy ticks (R81), the 16-bit immediate load (R141), and PUSH and POP (R230 to R232). -/

namespace Sys2Proof.Machine

/-! ## Busy ticks -/

/-- A busy tick takes the input levels and counts. -/
theorem step_busy_eq {s : State} (hd : s.dead = false) (h : 1 < s.cr) :
    step s = .next { s.sampleInputs with cr := s.cr - 1 } := by
  rw [step_busy hd h, State.countDown, State.sampleInputs_eq]
  rfl

/-- With no coming levels listed, `k` busy ticks count `k`. -/
theorem run_busy {s : State} {k : Nat} (hd : s.dead = false) (hin : s.inputs = []) (hk : k < s.cr) :
    core.run k s = .next { s with cr := s.cr - k } := by
  induction k generalizing s with
  | zero => rfl
  | succ k ih =>
    have hstep : core.step s = .next (s.setCr (s.cr - 1)) := by
      rw [← State.countDown_no_inputs hin]
      exact step_busy hd (by omega)
    have hrest := ih (s := s.setCr (s.cr - 1)) hd hin (by simp; omega)
    have hrun : core.run (k + 1) s = core.run k (s.setCr (s.cr - 1)) := by
      simp only [Host.Core.run, hstep]
    rw [hrun, hrest, State.setCr_cr, Nat.sub_sub, Nat.add_comm 1 k]
    rfl

/-- Settles O12. -/
theorem busyTicksOnlyCountDown : Obligations.BusyTicksOnlyCountDown :=
  ⟨fun _ => step_busy_eq, fun _ _ => run_busy⟩

/-! ## LD rr,d16 -/

/-- A write of a pair leaves every register outside it. -/
theorem State.sameRegsExcept_setPair (s : State) (p : Pair) (v : Word) :
    State.SameRegsExcept (pairRegs p) s (s.setPair p v) := by
  intro q hq
  cases p with
  | bc | de =>
    simp only [pairRegs, List.mem_cons, List.not_mem_nil, or_false, not_or] at hq
    simp [State.setPair, hq]
  | hl =>
    simp only [pairRegs, List.mem_cons, List.not_mem_nil, or_false, not_or] at hq
    simp [State.setPair, State.reg_setHl, hq]
  | sp => exact State.reg_setSp s q v

theorem encode_ldPairImm (p : Pair) (v : Word) :
    encode (Instr.ldPairImm p v) = [BitVec.ofNat 8 (0x01 + 16 * p.code), lowByte v, highByte v] := by
  cases p <;> rfl

theorem State.setPair_sp_of_ne (s : State) {p : Pair} (v : Word) (h : p ≠ .sp) : (s.setPair p v).sp = s.sp := by
  cases p with
  | bc | de | hl => simp [State.setPair]
  | sp => exact absurd rfl h

/-- Settles O33: the load is one write of the pair. -/
theorem ldPairImmLoadsTheWord : Obligations.LdPairImmLoadsTheWord := by
  intro p v s
  refine ⟨encode_ldPairImm p v, (s.setPair p v).setCr 12, by rw [exec_ldPairImm]; rfl, ?_⟩
  refine ⟨s.pair_setPair p v, s.sameRegsExcept_setPair p v, s.setPair_sp_of_ne v, by simp, by simp, rfl, fun a => by simp,
    State.transacts_none (by simp) (by simp), ?_⟩
  simp [State.SameControl]

/-! ## PUSH and POP -/

/-- The two bytes of a pair are its word's high and low bytes. -/
theorem stackPairBytes_eq (s : State) (p : StackPair) :
    stackPairBytes s p = (highByte (s.stackPair p), lowByte (s.stackPair p)) := by
  cases p <;> simp [stackPairBytes, State.stackPair, State.bc, State.de, State.hl, State.af, State.readF]

theorem encode_push (p : StackPair) : encode (Instr.push p) = [BitVec.ofNat 8 (0xC5 + 16 * p.code)] := by
  cases p <;> rfl

theorem encode_pop (p : StackPair) : encode (Instr.pop p) = [BitVec.ofNat 8 (0xC1 + 16 * p.code)] := by
  cases p <;> rfl

/-- Settles O51: PUSH is a push of the pair's word. -/
theorem pushStoresHighByteThenLowByte : Obligations.PushStoresHighByteThenLowByte := by
  intro p s
  simp only [stackPairBytes_eq]
  refine ⟨encode_push p, _, exec_push s p, by simp [State.push16_eq], State.storesOnly_push16 rfl,
    State.transacts_push16 rfl rfl, fun q _ => by simp [State.push16_eq], ?_⟩
  simp [State.push16_eq, State.SameControl]

/-- What POP qq leaves. -/
theorem exec_pop_eq (p : StackPair) (s : State) : exec (Instr.pop p) s =
    .next (((((s.afterRead s.sp).afterRead (s.sp + 1#16)).setSp (s.sp + 2#16)).setStackPair p
      (joinBytes s.popped.2 s.popped.1)).setCr 12) := by
  rw [exec_pop]
  simp only [popPair, State.pop16_eq]
  rfl

/-- Settles O52: POP is two reads and a write of the pair. -/
theorem popLoadsLowByteThenHighByte : Obligations.PopLoadsLowByteThenHighByte := by
  intro p s lo hi
  refine ⟨encode_pop p, _, exec_pop_eq p s, by simp, ?_, State.transacts_two_reads (by simp) (by simp), fun a => by simp,
    by simp, rfl, by simp [State.SameControl]⟩
  cases p <;> simp +contextual [State.setStackPair, State.SameRegsExcept, State.reg_setHl, hi, lo]

/-- AF's mask is F's (R9, R23). -/
theorem and_FFF0 (v : Word) : v &&& 0xFFF0#16 = joinBytes (highByte v) (lowByte v &&& 0xF0#8) := by
  calc v &&& 0xFFF0#16 = joinBytes (highByte v) (lowByte v) &&& joinBytes 0xFF#8 0xF0#8 := by
        rw [joinBytes_high_low]
        rfl
    _ = joinBytes (highByte v &&& BitVec.allOnes 8) (lowByte v &&& 0xF0#8) := BitVec.and_append
    _ = joinBytes (highByte v) (lowByte v &&& 0xF0#8) := by rw [BitVec.and_allOnes]

/-- A pair written is the pair read back; AF without F's low nibble (R9, R23). -/
theorem State.stackPair_setStackPair (s : State) (p : StackPair) (v : Word) :
    (s.setStackPair p v).stackPair p = if p = .af then v &&& 0xFFF0#16 else v := by
  cases p with
  | bc | de | hl => simp [State.setStackPair, State.stackPair, State.bc, State.de]
  | af => simp [State.setStackPair, State.stackPair, State.af, State.readF, State.setF, BitVec.and_assoc, and_FFF0]

/-- A pair written back into the registers it was read from changes no register. -/
theorem State.setStackPair_self {s t : State} (p : StackPair) (hreg : ∀ q, t.reg q = s.reg q) (hf : t.f = s.f) :
    State.SameRegsExcept [] s (t.setStackPair p (s.stackPair p)) ∧ (t.setStackPair p (s.stackPair p)).readF = s.readF := by
  cases p with
  | bc | de | hl =>
    refine ⟨fun q _ => ?_, by simp [State.readF, State.setStackPair, hf]⟩
    cases q <;> simp [State.setStackPair, State.stackPair, State.bc, State.de, State.hl, State.reg_setHl, hreg] <;> rfl
  | af =>
    refine ⟨fun q _ => ?_, ?_⟩
    · simp only [State.setStackPair, State.stackPair, State.af, highByte_joinBytes, State.reg_setF, State.reg_setReg, hreg]
      split
      · next hq => rw [hq]; rfl
      · rfl
    · simp [State.setStackPair, State.stackPair, State.af, State.setF, State.readF, BitVec.and_assoc]

/-- The two bytes pushed are the two bytes the next pop reads, if the stack is `ram` (R58, R59). -/
theorem State.popped_push16 {s : State} (v : Word) (k : Nat) (hwf : s.mem.wf = true) (hhi : s.kindAt (s.sp - 1#16) = .ram)
    (hlo : s.kindAt (s.sp - 2#16) = .ram) : ((s.push16 v).setCr k).popped = (lowByte v, highByte v) := by
  have hsp : s.sp - 2#16 + 1#16 = s.sp - 1#16 := by bv_omega
  obtain ⟨-, hstored⟩ := State.storesOnly_push16 (s := s) (t := (s.push16 v).setCr k) (v := v) rfl
  obtain ⟨hhigh, hlow⟩ := by simpa using hstored hwf
  have hheld : ∀ a, s.kindAt a = .ram → ((s.push16 v).setCr k).kindAt a ≠ .external := fun a ha => by
    simp [State.push16_eq, ha]
  have htop : ((s.push16 v).setCr k).sp = s.sp - 2#16 := by simp [State.push16_eq]
  obtain ⟨hfirst, -⟩ := State.answer_held (hheld _ hlo)
  obtain ⟨hsecond, -⟩ := State.answer_held (s := ((s.push16 v).setCr k).afterRead (s.sp - 2#16)) (hheld _ hhi)
  simp only [State.popped, htop, hsp, hfirst, hsecond, State.peek_afterRead, State.peek_setCr, hlow hlo, hhigh hhi]

/-- Settles O53. -/
theorem pushThenPopMovesThePair : Obligations.PushThenPopMovesThePair := by
  intro p q s
  refine ⟨_, _, exec_push s p, exec_pop_eq q _, by simp [State.push16_eq], fun hwf hhi hlo => ?_⟩
  rw [State.popped_push16 _ _ hwf hhi hlo, joinBytes_high_low]
  refine ⟨State.stackPair_setStackPair _ q _, ?_⟩
  rintro rfl
  exact State.setStackPair_self p (fun q => by simp [State.push16_eq]) (by simp [State.push16_eq])

end Sys2Proof.Machine
end

section
/-! PROOFS. The loads and stores through memory (R113 to R129, R142), and the offsets from SP (R144, R194). -/

namespace Sys2Proof.Machine

/-! ## LD r,(HL) and the loads of A -/

/-- A load from memory is one read, then the write of its register: the address is taken before the register changes. -/
theorem loadMem_loads (cost : Nat) (dst : Reg) (a : Word) (s : State) :
    ∃ t, loadMem cost dst a s = .next t ∧ t.reg dst = s.answer a ∧ State.SameRegsExcept [dst] s t ∧
      t.f = s.f ∧ t.sp = s.sp ∧ t.pc = s.pc ∧ t.cr = cost ∧ State.SameMemory s t ∧
      State.Transacts [.read a (s.answer a)] s t ∧ State.SameControl s t := by
  refine ⟨((s.afterRead a).setReg dst (s.answer a)).setCr cost, rfl, by simp, fun q hq => ?_, by simp, by simp, by simp, rfl,
    fun b => by simp, State.transacts_read (by simp) (by simp), by simp [State.SameControl]⟩
  have hne : q ≠ dst := by simpa using hq
  simp [hne]

theorem encode_ldRegAtHl (dst : Reg) : encode (Instr.ldRegAtHl dst) = [BitVec.ofNat 8 (0x46 + 8 * dst.code)] := by
  cases dst <;> rfl

/-- Settles O28: a load from the old HL, also into H and L. -/
theorem ldRegAtHlReadsTheByteAtHl : Obligations.LdRegAtHlReadsTheByteAtHl := by
  intro dst s
  rw [exec_ldRegAtHl]
  exact ⟨encode_ldRegAtHl dst, loadMem_loads 8 dst s.hl s⟩

/-- `0xFF00 | n` is the word with the high byte 0xFF (R92). -/
theorem highPage_eq (n : Byte) : highPage n = joinBytes 0xFF#8 n := by
  have hn : n.setWidth 16 = (0#8 ++ n : BitVec 16) := BitVec.setWidth_eq_append (by decide)
  calc highPage n = (0xFF#8 ++ 0#8 : BitVec 16) ||| (0#8 ++ n) := by
        rw [highPage, hn]
        rfl
    _ = (0xFF#8 ||| 0#8) ++ (0#8 ||| n) := BitVec.or_append
    _ = joinBytes 0xFF#8 n := by
        rw [BitVec.or_zero, BitVec.zero_or]
        rfl

/-- Settles O30: five loads of A, each at its address. -/
theorem loadsOfAReadTheirAddress : Obligations.LoadsOfAReadTheirAddress := by
  intro s a n i bytes addr cost hrow
  simp only [List.mem_cons, List.not_mem_nil, or_false, Prod.mk.injEq, ← highPage_eq] at hrow
  rcases hrow with ⟨rfl, rfl, rfl, rfl⟩ | ⟨rfl, rfl, rfl, rfl⟩ | ⟨rfl, rfl, rfl, rfl⟩ | ⟨rfl, rfl, rfl, rfl⟩ |
    ⟨rfl, rfl, rfl, rfl⟩ <;>
  exact ⟨rfl, loadMem_loads _ .a _ s⟩

/-! ## The stores of a register or an immediate -/

/-- A store is one write, and the registers stay. -/
theorem storeMem_stores (cost : Nat) (a : Word) (v : Byte) (s : State) :
    ∃ t, storeMem cost a v s = .next t ∧ State.StoresOnly [(a, v)] s t ∧ State.SameRegsExcept [] s t ∧
      t.f = s.f ∧ t.sp = s.sp ∧ t.pc = s.pc ∧ t.cr = cost ∧ State.Transacts [.write a v] s t ∧ State.SameControl s t :=
  ⟨(s.memWrite a v).setCr cost, rfl, State.storesOnly_memWrite (by simp), fun q _ => by simp, by simp, by simp,
    by simp, by simp, State.transacts_write (by simp) (by simp), by simp [State.SameControl]⟩

theorem encode_ldAtHlReg (src : Reg) : encode (Instr.ldAtHlReg src) = [BitVec.ofNat 8 (0x70 + src.code)] := by
  cases src <;> rfl

/-- Settles O29: a store at HL, of a register or of the immediate. -/
theorem ldAtHlStoresOneByteAtHl : Obligations.LdAtHlStoresOneByteAtHl := by
  intro src n s
  rw [exec_ldAtHlReg, exec_ldAtHlD8]
  exact ⟨⟨encode_ldAtHlReg src, storeMem_stores 8 s.hl (s.reg src) s⟩, rfl, storeMem_stores 12 s.hl n s⟩

/-- Settles O31: five stores of A, each at its address. -/
theorem storesOfAWriteTheirAddress : Obligations.StoresOfAWriteTheirAddress := by
  intro s a n i bytes addr cost hrow
  simp only [List.mem_cons, List.not_mem_nil, or_false, Prod.mk.injEq, ← highPage_eq] at hrow
  rcases hrow with ⟨rfl, rfl, rfl, rfl⟩ | ⟨rfl, rfl, rfl, rfl⟩ | ⟨rfl, rfl, rfl, rfl⟩ | ⟨rfl, rfl, rfl, rfl⟩ |
    ⟨rfl, rfl, rfl, rfl⟩ <;>
  exact ⟨rfl, storeMem_stores _ _ s.a s⟩

/-- Settles O34: two writes, at two addresses. -/
theorem ldAtA16SpStoresLowByteFirst : Obligations.LdAtA16SpStoresLowByteFirst := by
  intro a s
  rw [exec_ldAtA16Sp]
  exact ⟨rfl, ((s.memWrite a (lowByte s.sp)).memWrite (a + 1#16) (highByte s.sp)).setCr 20, rfl,
    State.storesOnly_two (ne_add_one a) rfl, State.transacts_two_writes (by simp) (by simp), fun q _ => by simp, by simp,
    by simp, by simp, by simp, by simp [State.SameControl]⟩

/-! ## HL stepped after the access -/

/-- A write of HL leaves every register but H and L. -/
theorem State.sameRegsExcept_setHl (s : State) (v : Word) : State.SameRegsExcept [.h, .l] s (s.setHl v) :=
  s.sameRegsExcept_setPair .hl v

/-- LD A,(HL+) and LD A,(HL-): one read at the old HL, and HL stepped. -/
theorem loadAAtHlThen_loads (delta : Word) (s : State) :
    ∃ t, loadAAtHlThen delta s = .next t ∧ t.a = s.answer s.hl ∧ t.hl = s.hl + delta ∧
      State.SameRegsExcept [.a, .h, .l] s t ∧ t.f = s.f ∧ t.sp = s.sp ∧ t.pc = s.pc ∧ t.cr = 8 ∧ State.SameMemory s t ∧
      State.Transacts [.read s.hl (s.answer s.hl)] s t ∧ State.SameControl s t := by
  refine ⟨(((s.afterRead s.hl).setReg .a (s.answer s.hl)).setHl (s.hl + delta)).setCr 8, rfl, by simp, by simp,
    fun q hq => ?_, rfl, rfl, rfl, rfl, fun b => by simp, State.transacts_read (by simp) (by simp), by simp [State.SameControl]⟩
  obtain ⟨ha, hh, hl⟩ : q ≠ .a ∧ q ≠ .h ∧ q ≠ .l := by simpa using hq
  simp [State.reg_setHl, ha, hh, hl]

/-- LD (HL+),A and LD (HL-),A: one write at the old HL, and HL stepped. -/
theorem storeAAtHlThen_stores (delta : Word) (s : State) :
    ∃ t, storeAAtHlThen delta s = .next t ∧ State.StoresOnly [(s.hl, s.a)] s t ∧ t.hl = s.hl + delta ∧
      State.SameRegsExcept [.h, .l] s t ∧ t.f = s.f ∧ t.sp = s.sp ∧ t.pc = s.pc ∧ t.cr = 8 ∧
      State.Transacts [.write s.hl s.a] s t ∧ State.SameControl s t :=
  ⟨((s.memWrite s.hl s.a).setHl (s.hl + delta)).setCr 8, rfl, State.storesOnly_memWrite (by simp), by simp,
    fun q hq => by simp [State.sameRegsExcept_setHl _ _ q hq], by simp, by simp, by simp, by simp,
    State.transacts_write (by simp) (by simp), by simp [State.SameControl]⟩

/-- Settles O32: the four accesses, up by one or down by one modulo 2^16. -/
theorem hlStepsAfterTheAccess : Obligations.HlStepsAfterTheAccess := by
  intro s i bytes hl
  simp only [List.mem_cons, List.not_mem_nil, or_false, Prod.mk.injEq, BitVec.sub_eq_add_neg]
  constructor <;> rintro (⟨rfl, rfl, rfl⟩ | ⟨rfl, rfl, rfl⟩)
  · exact ⟨rfl, loadAAtHlThen_loads 1#16 s⟩
  · exact ⟨rfl, loadAAtHlThen_loads (-1#16) s⟩
  · exact ⟨rfl, storeAAtHlThen_stores 1#16 s⟩
  · exact ⟨rfl, storeAAtHlThen_stores (-1#16) s⟩

/-! ## Signed offsets from SP -/

/-- `sext_8` is the two's-complement value of the byte (R8). -/
theorem sextInt_eq_toInt (e : Byte) : sextInt e = e.toInt := by
  rw [sextInt, BitVec.toInt_eq_toNat_cond]
  split <;> split <;> omega

/-- A signed offset is added modulo 2^16 (R57, R91). -/
theorem addSigned_toNat (v : Word) (e : Byte) : ((addSigned v e).toNat : Int) = (v.toNat + e.toInt) % 65536 := by
  rw [addSigned, sextInt_eq_toInt, BitVec.toNat_ofInt]
  exact Int.toNat_of_nonneg (Int.emod_nonneg _ (by decide))

/-- Settles O36: both forms add the same offset and leave the same flags. -/
theorem spPlusOffsetFormsAgreeOnFlags : Obligations.SpPlusOffsetFormsAgreeOnFlags := by
  intro e s
  have hflags : ∀ t : State, t.f = (spOffsetFlags s.sp e).pack &&& 0xF0#8 → t.FlagsAre false false
      (decide (s.sp.toNat % 16 + e.toNat % 16 > 15)) (decide (s.sp.toNat % 256 + e.toNat > 255)) :=
    fun _ => State.flagsAre_of_f
  rw [exec_ldHlSpE8, exec_addSpE8]
  refine ⟨⟨rfl, _, rfl, ?_, hflags _ rfl, ?_, rfl, rfl, rfl, fun _ => rfl, State.transacts_none rfl rfl, ?_⟩,
    rfl, _, rfl, addSigned_toNat s.sp e, hflags _ rfl, fun q _ => by simp, rfl, rfl, fun _ => rfl,
    State.transacts_none rfl rfl, ?_⟩
  · simpa using addSigned_toNat s.sp e
  · exact s.sameRegsExcept_setHl _
  · simp [State.SameControl]
  · simp [State.SameControl]

end Sys2Proof.Machine
end

section
/-! PROOFS. The operations on an 8-bit operand that may be the byte at HL (R85): INC and DEC (R176 to R179), and BIT, RES and SET
(R267 to R272). Each reads its operand once, and all but BIT write it back. -/

namespace Sys2Proof.Machine

/-! ## An operand read, and an operand written back -/

/-- The state a read of an operand leaves: a transaction for the byte at HL, nothing for a register. -/
def State.readOperand (s : State) : Operand8 → State
  | .reg _ => s
  | .atHl => s.afterRead s.hl

/-- The state a read-modify-write of an operand with the result `v` leaves (R60, R250). -/
def State.updateOperand (s : State) (o : Operand8) (v : Byte) : State :=
  match o with
  | .reg r => s.setReg r v
  | .atHl => (s.afterRead s.hl).memWrite s.hl v

/-- A read of an operand leaves all but the transactions. -/
theorem State.readOperand_frame (s : State) (o : Operand8) : (∀ q, (s.readOperand o).reg q = s.reg q) ∧
    (s.readOperand o).sp = s.sp ∧ (s.readOperand o).pc = s.pc ∧ State.SameMemory s (s.readOperand o) ∧
    State.SameControl s (s.readOperand o) := by
  cases o with
  | reg r => simp [State.readOperand, State.SameMemory, State.SameControl]
  | atHl => simp [State.readOperand, State.SameMemory, State.SameControl]

/-- One read at HL for the byte there, and none for a register. -/
theorem State.transacts_readOperand (s : State) (o : Operand8) :
    State.Transacts (if o = .atHl then [.read s.hl (s.answer s.hl)] else []) s (s.readOperand o) := by
  cases o with
  | reg r => exact State.transacts_none rfl rfl
  | atHl => exact s.transacts_afterRead s.hl

/-- A read-modify-write leaves F, SP, PC and the control state. -/
theorem State.updateOperand_frame (s : State) (o : Operand8) (v : Byte) : (s.updateOperand o v).f = s.f ∧
    (s.updateOperand o v).sp = s.sp ∧ (s.updateOperand o v).pc = s.pc ∧ State.SameControl s (s.updateOperand o v) := by
  cases o with
  | reg r => simp [State.updateOperand, State.SameControl]
  | atHl => simp [State.updateOperand, State.SameControl]

/-- What an update is depends, of the state after it, on the registers, memory and the transactions alone. -/
theorem State.Updates.congr {o : Operand8} {v : Byte} {s t t' : State} (h : State.Updates o v s t)
    (hreg : ∀ q, t'.reg q = t.reg q) (hmem : t'.mem = t.mem) (ht : t'.trace = t.trace) (ha : t'.answers = t.answers) :
    State.Updates o v s t' := by
  cases o with
  | reg r =>
    obtain ⟨hr, hregs, hsame, htr⟩ := h
    exact ⟨(hreg r).trans hr, fun q hq => (hreg q).trans (hregs q hq), fun a => (State.peek_of_mem hmem a).trans (hsame a),
      htr.congr rfl rfl rfl ht ha⟩
  | atHl =>
    obtain ⟨hregs, ⟨hother, hstored⟩, htr⟩ := h
    exact ⟨fun q hq => (hreg q).trans (hregs q hq), ⟨fun a ha => (State.peek_of_mem hmem a).trans (hother a ha),
      fun hwf w hw hk => (State.peek_of_mem hmem w.1).trans (hstored hwf w hw hk)⟩, htr.congr rfl rfl rfl ht ha⟩

/-- A read-modify-write is an update: the register alone, or one read and one write at HL. -/
theorem State.updates_updateOperand (s : State) (o : Operand8) (v : Byte) : State.Updates o v s (s.updateOperand o v) := by
  cases o with
  | reg r =>
    refine ⟨by simp [State.updateOperand], fun q hq => ?_, fun a => by simp [State.updateOperand],
      State.transacts_none (by simp [State.updateOperand]) (by simp [State.updateOperand])⟩
    have hne : q ≠ r := by simpa using hq
    simp [State.updateOperand, hne]
  | atHl =>
    have hmem : (s.updateOperand .atHl v).mem = (s.memWrite s.hl v).mem :=
      State.memWrite_mem_of (s.afterRead_mem s.hl) (s.afterRead_regions s.hl) s.hl v
    exact ⟨fun q _ => by simp [State.updateOperand], State.storesOnly_memWrite hmem,
      State.transacts_read_write (by simp [State.updateOperand]) (by simp [State.updateOperand])⟩

/-- A read-modify-write that writes the flags, at a cost: the update, the flags, and nothing else. -/
theorem State.updateOperand_setFlags (s : State) (o : Operand8) (v : Byte) (fl : Flags) (cost : Nat) :
    let t := ((s.updateOperand o v).setFlags fl).setCr cost
    State.Updates o v s t ∧ t.FlagsAre fl.z fl.n fl.h fl.c ∧ t.sp = s.sp ∧ t.pc = s.pc ∧ t.cr = cost ∧
      State.SameControl s t := by
  obtain ⟨-, hsp, hpc, hcontrol⟩ := s.updateOperand_frame o v
  exact ⟨(s.updates_updateOperand o v).congr (fun q => by simp) rfl rfl rfl, State.flagsAre_of_f rfl, hsp, hpc, rfl, hcontrol⟩

/-- A read-modify-write that keeps the flags, at a cost. -/
theorem State.updateOperand_setCr (s : State) (o : Operand8) (v : Byte) (cost : Nat) :
    let t := (s.updateOperand o v).setCr cost
    State.Updates o v s t ∧ t.f = s.f ∧ t.sp = s.sp ∧ t.pc = s.pc ∧ t.cr = cost ∧ State.SameControl s t := by
  obtain ⟨hf, hsp, hpc, hcontrol⟩ := s.updateOperand_frame o v
  exact ⟨(s.updates_updateOperand o v).congr (fun q => by simp) rfl rfl rfl, hf, hsp, hpc, rfl, hcontrol⟩

/-! ## INC and DEC -/

theorem exec_inc8 (o : Operand8) (s : State) : exec (Instr.inc8 o) s = finish (if o = .atHl then 12 else 4)
    ((s.updateOperand o (inc8 (s.operand o) s.flagC).value).setFlags (inc8 (s.operand o) s.flagC).flags) := by
  cases o with
  | reg r => exact exec_incReg s r
  | atHl => rfl

theorem exec_dec8 (o : Operand8) (s : State) : exec (Instr.dec8 o) s = finish (if o = .atHl then 12 else 4)
    ((s.updateOperand o (dec8 (s.operand o) s.flagC).value).setFlags (dec8 (s.operand o) s.flagC).flags) := by
  cases o with
  | reg r => exact exec_decReg s r
  | atHl => rfl

theorem encode_inc8 (o : Operand8) : encode (Instr.inc8 o) = [BitVec.ofNat 8 (0x04 + 8 * o.code)] := by
  cases o with
  | reg r => cases r <;> rfl
  | atHl => rfl

theorem encode_dec8 (o : Operand8) : encode (Instr.dec8 o) = [BitVec.ofNat 8 (0x05 + 8 * o.code)] := by
  cases o with
  | reg r => cases r <;> rfl
  | atHl => rfl

/-- A narrowed integer is 0 when it is a multiple of 256. -/
theorem ofNat_eq_zero_iff (k : Nat) : BitVec.ofNat 8 k = 0#8 ↔ k % 256 = 0 := by
  rw [← BitVec.toNat_inj, BitVec.toNat_ofNat]
  rfl

/-- INC on integers (R176). -/
theorem inc8_eq (v : Byte) (carry : Bool) : inc8 v carry = ⟨BitVec.ofNat 8 (v.toNat + 1),
    ⟨decide ((v.toNat + 1) % 256 = 0), false, decide (v.toNat % 16 = 15), carry⟩⟩ := by
  simp only [inc8, ofNat_eq_zero_iff]

/-- DEC on integers: one less is 255 more modulo 256, and is 0 from 1 alone (R178). -/
theorem dec8_eq (v : Byte) (carry : Bool) : dec8 v carry = ⟨BitVec.ofNat 8 (v.toNat + 255),
    ⟨decide (v.toNat = 1), true, decide (v.toNat % 16 = 0), carry⟩⟩ := by
  have hvalue : BitVec.ofInt 8 ((v.toNat : Int) - 1) = BitVec.ofNat 8 (v.toNat + 255) := by
    apply BitVec.eq_of_toNat_eq
    rw [BitVec.toNat_ofInt, BitVec.toNat_ofNat]
    omega
  have hzero : (v.toNat + 255) % 256 = 0 ↔ v.toNat = 1 := by
    have := v.isLt
    omega
  simp only [dec8, hvalue, ofNat_eq_zero_iff, hzero]

/-- Settles O42. -/
theorem incKeepsCarry : Obligations.IncKeepsCarry := by
  intro o s v
  refine ⟨encode_inc8 o, _, exec_inc8 o s, ?_⟩
  rw [inc8_eq]
  exact s.updateOperand_setFlags o _ _ _

/-- Settles O43. -/
theorem decKeepsCarry : Obligations.DecKeepsCarry := by
  intro o s v
  refine ⟨encode_dec8 o, _, exec_dec8 o s, ?_⟩
  rw [dec8_eq]
  exact s.updateOperand_setFlags o _ _ _

/-! ## BIT -/

theorem exec_bit8 (n : Fin 8) (o : Operand8) (s : State) : exec (Instr.bit8 n o) s =
    finish (if o = .atHl then 12 else 8) ((s.readOperand o).setFlags (bitFlags n (s.operand o) s.flagC)) := by
  cases o with
  | reg r => exact exec_bitReg s n r
  | atHl => exact exec_bitAtHl s n

theorem encode_bit8 (n : Fin 8) (o : Operand8) :
    encode (Instr.bit8 n o) = [0xCB#8, BitVec.ofNat 8 (0x40 + 8 * n.val + o.code)] := by
  cases o with
  | reg r => fin_cases n <;> cases r <;> rfl
  | atHl => fin_cases n <;> rfl

/-- The flags of BIT, with the bit as a digit of the operand (R267). -/
theorem bitFlags_eq (n : Fin 8) (v : Byte) (carry : Bool) :
    bitFlags n v carry = ⟨decide (v.toNat / 2 ^ n.val % 2 = 0), false, true, carry⟩ := by
  have hbit : (!v.getLsbD n.val) = decide (v.toNat / 2 ^ n.val % 2 = 0) := by
    rw [BitVec.getLsbD, Nat.testBit_eq_decide_div_mod_eq, ← decide_not]
    exact decide_eq_decide.mpr (by omega)
  rw [bitFlags, hbit]

/-- Settles O56: the operand is read, and F is written. -/
theorem bitTestsWriteOnlyFlags : Obligations.BitTestsWriteOnlyFlags := by
  intro n o s
  obtain ⟨hreg, hsp, hpc, hmem, hcontrol⟩ := s.readOperand_frame o
  refine ⟨encode_bit8 n o, _, exec_bit8 n o s, ?_, fun q _ => by simp [hreg], hmem,
    (s.transacts_readOperand o).congr rfl rfl rfl rfl rfl, hsp, hpc, rfl, hcontrol⟩
  rw [bitFlags_eq]
  exact State.flagsAre_of_f (fl := ⟨_, _, _, _⟩) rfl

/-! ## RES and SET -/

theorem exec_res8 (n : Fin 8) (o : Operand8) (s : State) : exec (Instr.res8 n o) s =
    finish (if o = .atHl then 16 else 8) (s.updateOperand o (resBit n (s.operand o))) := by
  cases o with
  | reg r => exact exec_resReg s n r
  | atHl => exact exec_resAtHl s n

theorem exec_set8 (n : Fin 8) (o : Operand8) (s : State) : exec (Instr.set8 n o) s =
    finish (if o = .atHl then 16 else 8) (s.updateOperand o (setBit n (s.operand o))) := by
  cases o with
  | reg r => exact exec_setReg s n r
  | atHl => exact exec_setAtHl s n

theorem encode_res8 (n : Fin 8) (o : Operand8) :
    encode (Instr.res8 n o) = [0xCB#8, BitVec.ofNat 8 (0x80 + 8 * n.val + o.code)] := by
  cases o with
  | reg r => fin_cases n <;> cases r <;> rfl
  | atHl => fin_cases n <;> rfl

theorem encode_set8 (n : Fin 8) (o : Operand8) :
    encode (Instr.set8 n o) = [0xCB#8, BitVec.ofNat 8 (0xC0 + 8 * n.val + o.code)] := by
  cases o with
  | reg r => fin_cases n <;> cases r <;> rfl
  | atHl => fin_cases n <;> rfl

/-- The mask `1 << b` holds bit b alone. -/
theorem one_shiftLeft_getLsbD (n : Fin 8) (k : Nat) : (1#8 <<< n.val).getLsbD k = decide (k = n.val) := by
  rw [← BitVec.twoPow_eq, BitVec.getLsbD_twoPow]
  simp [n.isLt, eq_comm]

theorem resBit_getLsbD (n : Fin 8) (v : Byte) {k : Nat} (hk : k < 8) :
    (resBit n v).getLsbD k = (decide (k ≠ n.val) && v.getLsbD k) := by
  rw [resBit, BitVec.getLsbD_and, BitVec.getLsbD_not, one_shiftLeft_getLsbD n k]
  simp [hk, Bool.and_comm]

theorem setBit_getLsbD (n : Fin 8) (v : Byte) (k : Nat) :
    (setBit n v).getLsbD k = (decide (k = n.val) || v.getLsbD k) := by
  rw [setBit, BitVec.getLsbD_or, one_shiftLeft_getLsbD n k, Bool.or_comm]

/-- Settles O57: a read-modify-write of one bit, the flags kept. -/
theorem resAndSetChangeOneBit : Obligations.ResAndSetChangeOneBit := by
  intro n o s
  obtain ⟨hres, hresFrame⟩ := s.updateOperand_setCr o (resBit n (s.operand o)) (if o = .atHl then 16 else 8)
  obtain ⟨hset, hsetFrame⟩ := s.updateOperand_setCr o (setBit n (s.operand o)) (if o = .atHl then 16 else 8)
  exact ⟨⟨encode_res8 n o, _, _, exec_res8 n o s, hres, fun k hk => resBit_getLsbD n _ hk, hresFrame⟩,
    encode_set8 n o, _, _, exec_set8 n o s, hset, fun k _ => setBit_getLsbD n _ k, hsetFrame⟩

end Sys2Proof.Machine
end

section
/-! PROOFS. Calls and returns (R207 to R212). -/

namespace Sys2Proof.Machine

/-- The claims' table of conditions is the machine's (R87, R200). -/
theorem State.holds_eq_cond (s : State) (cc : Cond) : s.holds cc = s.cond cc := by
  cases cc <;> rfl

/-- A row that only loads `cr`. -/
theorem finish_fallsThrough (cost : Nat) (s : State) : ∃ t, finish cost s = .next t ∧ fallsThrough cost s t :=
  ⟨s.setCr cost, rfl, rfl, rfl, fun _ => rfl, State.transacts_none rfl rfl, rfl, fun q _ => by simp, rfl,
    by simp [State.SameControl]⟩

/-! ## Calls -/

/-- A call is a push of PC and a jump. -/
theorem call_calls (cost : Nat) (target : Word) (s : State) :
    ∃ t, call cost target s = .next t ∧ calls target cost s t := by
  refine ⟨((s.push16 s.pc).setPc target).setCr cost, rfl, rfl, ?_, State.storesOnly_push16 rfl, State.transacts_push16 rfl rfl,
    rfl, fun q _ => ?_, ?_⟩
  · simp [State.push16_eq]
  · simp [State.push16_eq]
  · simp [State.push16_eq, State.SameControl]

theorem encode_callCond (cc : Cond) (a : Word) :
    encode (Instr.callCond cc a) = [BitVec.ofNat 8 (0xC4 + 8 * cc.code), lowByte a, highByte a] := by
  cases cc <;> rfl

theorem encode_rst (n : Fin 8) : encode (Instr.rst n) = [BitVec.ofNat 8 (0xC7 + 8 * n.val)] := by
  fin_cases n <;> rfl

/-- A conditional call is taken exactly when its condition holds (R201, R208). -/
theorem callIf_calls (cc : Cond) (a : Word) (s : State) :
    ∃ t, callIf cc a s = .next t ∧ (if s.holds cc then calls a 24 s t else fallsThrough 12 s t) := by
  rw [State.holds_eq_cond]
  cases h : s.cond cc with
  | true => simpa [callIf, h] using call_calls 24 a s
  | false => simpa [callIf, h] using finish_fallsThrough 12 s

/-- Settles O49. -/
theorem callsPushTheReturnAddress : Obligations.CallsPushTheReturnAddress := by
  intro a cc n s holds
  rw [exec_callA16, exec_callCond, exec_rst]
  refine ⟨⟨rfl, call_calls 24 a s⟩, ⟨encode_callCond cc a, callIf_calls cc a s⟩, encode_rst n, ?_⟩
  rw [Nat.mul_comm]
  exact call_calls 16 (restartTarget n) s

/-! ## Returns -/

/-- A return's pop and jump leave what `returns` says and the control state. -/
theorem State.returns_pop16 (s : State) (cost : Nat) : let t := (s.pop16.2.setPc s.pop16.1).setCr cost
    returns cost s t ∧ State.SameControl s t := by
  rw [State.pop16_eq]
  exact ⟨⟨by simp, by simp, fun a => by simp, State.transacts_two_reads (by simp) (by simp), by simp, fun q _ => by simp,
    by simp⟩, by simp [State.SameControl]⟩

theorem encode_retCond (cc : Cond) : encode (Instr.retCond cc) = [BitVec.ofNat 8 (0xC0 + 8 * cc.code)] := by
  cases cc <;> rfl

/-- A conditional return is taken exactly when its condition holds (R201, R210). -/
theorem returnIf_returns (cc : Cond) (s : State) : ∃ t, returnIf cc s = .next t ∧
    (if s.holds cc then returns 20 s t ∧ State.SameControl s t else fallsThrough 8 s t) := by
  rw [State.holds_eq_cond]
  cases h : s.cond cc with
  | true => exact ⟨_, if_pos h, s.returns_pop16 20⟩
  | false => simpa [returnIf, h] using finish_fallsThrough 8 s

/-- Settles O50: RETI is a return that also sets IME. -/
theorem returnsPopPcAndRetiEnablesInterrupts : Obligations.ReturnsPopPcAndRetiEnablesInterrupts := by
  intro cc s holds
  obtain ⟨hreturns, hcontrol⟩ := s.returns_pop16 16
  rw [exec_ret, exec_retCond, exec_reti]
  refine ⟨⟨rfl, _, rfl, hreturns, hcontrol⟩, ⟨encode_retCond cc, returnIf_returns cc s⟩, rfl, _, rfl, hreturns, rfl, ?_⟩
  simp [State.returnFromInterrupt, State.pop16_eq, State.SameControl]

end Sys2Proof.Machine
end

section
/-! PROOFS. The boundary action of a running core (R82): the dispatch with and without the halt bug (R83, R281), the interrupt entry
(R306 to R311), and that every tick completes (R53, R99, R300). -/

namespace Sys2Proof.Machine

/-! ## Decoding what was fetched -/

/-- Every opcode decodes with the two bytes after it (R99). -/
theorem decode_three_ok (op b1 b2 : Byte) : ∃ i rest, decode [op, b1, b2] = .ok (i, rest) := by
  cases h : decodeBase op <;> simp [decode, h]

/-- The three bytes from PC on tell the bytes that a fetch takes, and how many they are (R80, R83). -/
theorem State.decode_fetchInstr {s : State} {i : Instr} {rest : List Byte} (hbug : s.haltBug = false)
    (h : decode (s.stream s.pc 3) = .ok (i, rest)) :
    3 - rest.length = instrLength (s.answer s.pc) ∧ decode s.fetchInstr.1 = .ok (i, []) := by
  obtain ⟨hlength, hdecode⟩ := decode_three h
  refine ⟨hlength, ?_⟩
  rw [State.fetchInstr_eq hbug, ← s.stream_take s.pc (instrLength_bounds _).2]
  exact hdecode

/-- After the halt bug, the byte at PC and the two that the next reads from PC on answer (R83, R281). -/
theorem State.decode_fetchInstr_haltBug {s : State} {i : Instr} {rest : List Byte} (hbug : s.haltBug = true)
    (h : decode (s.answer s.pc :: (s.afterRead s.pc).stream s.pc 2) = .ok (i, rest)) :
    2 - rest.length = instrLength (s.answer s.pc) - 1 ∧ decode s.fetchInstr.1 = .ok (i, []) := by
  obtain ⟨hlength, hdecode⟩ := decode_three h
  obtain ⟨hpos, hmax⟩ := instrLength_bounds (s.answer s.pc)
  refine ⟨by omega, ?_⟩
  rw [State.fetchInstr_haltBug hbug, ← (s.afterRead s.pc).stream_take s.pc (show instrLength (s.answer s.pc) - 1 ≤ 2 by omega),
    ← List.take_succ_cons, Nat.sub_add_cancel hpos]
  exact hdecode

/-- What is fetched decodes, in every state. -/
theorem State.fetchInstr_decodes (s : State) : ∃ i, decode s.fetchInstr.1 = .ok (i, []) := by
  cases hbug : s.haltBug with
  | false =>
    obtain ⟨i, rest, h⟩ := decode_three_ok (s.answer s.pc) _ _
    exact ⟨i, (State.decode_fetchInstr hbug h).2⟩
  | true =>
    obtain ⟨i, rest, h⟩ := decode_three_ok (s.answer s.pc) _ _
    exact ⟨i, (State.decode_fetchInstr_haltBug hbug h).2⟩

/-- A dispatch runs what was fetched. -/
theorem dispatch_of_decode {s : State} {i : Instr} {rest : List Byte} (h : decode s.fetchInstr.1 = .ok (i, rest)) :
    dispatch s = exec i s.fetchInstr.2 := by
  simp only [dispatch, h]

/-! ## Every tick completes -/

theorem dispatch_next (s : State) : ∃ t, dispatch s = .next t := by
  obtain ⟨i, h⟩ := s.fetchInstr_decodes
  obtain ⟨t, ht, -⟩ := exec_within i s.fetchInstr.2
  exact ⟨t, (dispatch_of_decode h).trans ht⟩

/-- Each branch of the boundary action is a next state (R82). -/
theorem boundary_next (s : State) : ∃ t, boundary s = .next t := by
  unfold boundary stoppedBoundary haltedBoundary
  split
  · split <;> exact ⟨_, rfl⟩
  · split
    · split <;> exact ⟨_, rfl⟩
    · split
      · exact ⟨_, rfl⟩
      · exact dispatch_next _

/-- Settles O16: a dead core stays, a busy one counts, and a boundary completes. -/
theorem everyTickAnswersANextState : Obligations.EveryTickAnswersANextState := by
  intro s
  cases hd : s.dead with
  | true => exact ⟨_, step_dead hd⟩
  | false =>
    rcases Nat.lt_or_ge 1 s.cr with hbusy | hlast
    · exact ⟨_, step_busy hd hbusy⟩
    · rw [step_boundary hd hlast]
      exact boundary_next _

/-! ## The boundary of a running core -/

/-- A running core is neither dead nor waiting. -/
theorem State.running_iff (s : State) : s.running = true ↔ s.dead = false ∧ s.halted = false ∧ s.stopped = false := by
  simp [State.running, and_assoc]

/-- The state in which a boundary dispatches: the levels of this tick, `cr` 0, and EI applied. -/
def State.beforeDispatch (s : State) : State :=
  { s.sampleInputs with cr := 0, ime := s.ime || s.eiPending, eiPending := false }

/-- Applying EI is writing its two elements (R82, R284). -/
theorem State.applyEi_eq (s : State) : s.applyEi = { s with ime := s.ime || s.eiPending, eiPending := false } := by
  unfold State.applyEi
  split
  · next h => simp [h, State.setIme, State.setEiPending]
  · next h =>
    have hno : s.eiPending = false := by simpa using h
    rw [hno, Bool.or_false, ← hno]

/-- On the last tick of a count it is down to 0. -/
theorem State.countDown_last {s : State} (h : s.cr ≤ 1) : s.countDown = { s.sampleInputs with cr := 0 } := by
  have hcr : s.cr - 1 = 0 := by omega
  rw [State.countDown, State.sampleInputs_eq, ← hcr]
  rfl

/-- A tick of a running core at a boundary accepts an interrupt or dispatches (R82). -/
theorem step_running {s : State} (hrun : s.running = true) (hcr : s.cr ≤ 1) :
    step s = if s.countDown.acceptsInterrupt then .next (s.countDown.interruptEntry (lowestLine s.countDown.irqLines))
      else dispatch s.countDown.applyEi := by
  obtain ⟨hlive, hhalted, hstopped⟩ := s.running_iff.mp hrun
  have hwaits : s.countDown.stopped = false ∧ s.countDown.halted = false := by
    rw [State.countDown, State.sampleInputs_eq]
    exact ⟨hstopped, hhalted⟩
  obtain ⟨hs, hh⟩ := hwaits
  simp only [step_boundary hlive hcr, boundary, hs, hh, Bool.false_eq_true, if_false]

theorem step_dispatches {s : State} (h : s.dispatches) : step s = dispatch s.beforeDispatch := by
  obtain ⟨hrun, hcr, haccepts⟩ := h
  rw [step_running hrun hcr, haccepts, if_neg Bool.false_ne_true, State.applyEi_eq, State.countDown_last hcr,
    State.beforeDispatch, State.sampleInputs_eq]

/-! ## Dispatch -/

/-- What a read at the boundary answers does not depend on the tick's levels, `cr` or EI. -/
theorem State.beforeDispatch_memory (s : State) : s.beforeDispatch.mem = s.mem ∧ s.beforeDispatch.regions = s.regions ∧
    s.beforeDispatch.answers = s.answers ∧ s.beforeDispatch.trace = s.trace ∧ s.beforeDispatch.pc = s.pc ∧
    s.beforeDispatch.haltBug = s.haltBug := by
  rw [State.beforeDispatch, State.sampleInputs_eq]
  exact ⟨rfl, rfl, rfl, rfl, rfl, rfl⟩

/-- Settles O10: the fetch of the state before the dispatch reads what the tick's own state would. -/
theorem stepRunsTheDecodedInstruction : Obligations.StepRunsTheDecodedInstruction := by
  intro s i rest hs hbug hdec evs
  obtain ⟨hm, hr, ha, ht, hpc, hb⟩ := s.beforeDispatch_memory
  have hreads := fun n => State.stream_of hm hr ha ht s.pc n
  have hbug' : s.beforeDispatch.haltBug = false := hb.trans hbug
  rw [← (hreads 3).1, ← hpc] at hdec
  obtain ⟨hlength, hdecode⟩ := State.decode_fetchInstr hbug' hdec
  rw [step_dispatches hs, dispatch_of_decode hdecode, State.fetchInstr_eq hbug', ← hlength]
  simp only [hpc, ha, ht, (hreads _).2, State.externalReads_of_regions hr]
  rfl

/-- Settles O11: the same after the halt bug, the reads after the opcode's from PC again. -/
theorem haltBugFetchDoesNotAdvancePc : Obligations.HaltBugFetchDoesNotAdvancePc := by
  intro s i rest hs hbug u hdec evs
  obtain ⟨hm, hr, ha, ht, hpc, hb⟩ := s.beforeDispatch_memory
  obtain ⟨hau, htu⟩ := State.afterRead_of hm hr ha ht s.pc
  have hreads := fun n => State.stream_of (s := u) (t := s.beforeDispatch.afterRead s.pc) hm hr hau htu s.pc n
  have hanswer := State.answer_of hm hr ha ht s.pc
  have hbug' : s.beforeDispatch.haltBug = true := hb.trans hbug
  rw [← (hreads 2).1, ← hanswer, ← hpc] at hdec
  obtain ⟨hlength, hdecode⟩ := State.decode_fetchInstr_haltBug hbug' hdec
  rw [step_dispatches hs, dispatch_of_decode hdecode, State.fetchInstr_haltBug hbug', ← hlength]
  simp only [hpc, ha, ht, hanswer, (hreads _).2, State.externalReads_of_regions hr]
  rfl

/-! ## Interrupt entry -/

/-- The winning line is the lowest one that is 1 (R308): checked on each of the 32 levels of the five lines. -/
theorem lowestLine_eq {lines : BitVec 5} {n : Fin 5} (hn : lines.getLsbD n.val = true)
    (hlow : ∀ m : Fin 5, m < n → lines.getLsbD m.val = false) : lowestLine lines = n := by
  revert lines n
  decide

theorem interruptVector_toNat (n : Fin 5) : (interruptVector n).toNat = 0x40 + 8 * n.val := by
  fin_cases n <;> rfl

/-- With IME and requests connected, a running core accepts the lowest requested line (R307, R308). -/
theorem step_interrupt {s : State} {n : Fin 5} (hrun : s.running = true) (hcr : s.cr ≤ 1) (hime : s.ime = true)
    (hirq : s.cfg.irqConnected = true) (hn : s.sampleInputs.irqReq.getLsbD n.val = true)
    (hlow : ∀ m : Fin 5, m < n → s.sampleInputs.irqReq.getLsbD m.val = false) :
    step s = .next (State.interruptEntry { s.sampleInputs with cr := 0 } n) := by
  have hlines : s.countDown.irqLines = s.sampleInputs.irqReq := by
    rw [State.irqLines, State.countDown, State.sampleInputs_eq]
    exact if_pos hirq
  have hrequested : s.sampleInputs.irqReq ≠ 0#5 := fun hzero => by simp [hzero] at hn
  have haccepts : s.countDown.acceptsInterrupt = true := by
    have himeNow : s.countDown.ime = true := by
      rw [State.countDown, State.sampleInputs_eq]
      exact hime
    simp [State.acceptsInterrupt, himeNow, hlines, hrequested]
  rw [step_running hrun hcr, if_pos haccepts, hlines, lowestLine_eq hn hlow, State.countDown_last hcr]

/-- An entry stores what its push of PC stores (R309). -/
theorem State.storesOnly_interruptEntry (s : State) (n : Fin 5) :
    State.StoresOnly [(s.sp - 1#16, highByte s.pc), (s.sp - 2#16, lowByte s.pc)] s (s.interruptEntry n) :=
  State.storesOnly_push16 rfl

/-- An entry writes no general register (R309). -/
theorem State.sameRegsExcept_interruptEntry (s : State) (n : Fin 5) :
    State.SameRegsExcept [] s (s.interruptEntry n) := fun q _ => by simp [State.interruptEntry_eq]

/-- The acknowledgement follows the two writes of the push (R309). -/
theorem State.transacts_interruptEntry (s : State) (n : Fin 5) : State.Transacts
    [.write (s.sp - 1#16) (highByte s.pc), .write (s.sp - 2#16) (lowByte s.pc), .irqAck n] s (s.interruptEntry n) := by
  rw [State.interruptEntry_eq]
  exact ⟨by simp, by simp⟩

/-- Settles O15: the entry of the accepted line, a push of PC from the tick's state. -/
theorem interruptEntryAtABoundary : Obligations.InterruptEntryAtABoundary := by
  intro s n hrun hcr hime hirq hn hlow
  obtain ⟨hlive, hhalted, hstopped⟩ := s.running_iff.mp hrun
  obtain ⟨hfault, hlocked⟩ : s.fault = .none ∧ s.locked = false := by simpa [State.dead] using hlive
  refine ⟨_, step_interrupt hrun hcr hime hirq hn hlow, ?_⟩
  have hstores := State.storesOnly_interruptEntry { s.sampleInputs with cr := 0 } n
  have htransacts := State.transacts_interruptEntry { s.sampleInputs with cr := 0 } n
  have hregs := State.sameRegsExcept_interruptEntry { s.sampleInputs with cr := 0 } n
  rw [State.sampleInputs_eq, State.interruptEntry_eq] at hstores htransacts hregs ⊢
  exact ⟨by simp, by simp, by simp [interruptVector_toNat], by simp, by simp, hstores.congr rfl rfl,
    htransacts.congr rfl rfl rfl rfl rfl, hregs, by simp, by simpa, by simpa, by simp, by simpa, by simpa, by simp, by simp,
    by simp, by simp, by simp, by simp⟩

end Sys2Proof.Machine
end

section
/-! PROOFS. The decoder and the encoder are inverse to each other (R80, R83, R84, R95 to R99). Both directions go through one
relation, the bytes that spell an instruction by the decoder's tables. -/

namespace Sys2Proof.Machine

/-! ## What a decoder takes from a list of bytes -/

/-- These bytes are those of instruction `i` by the decoder's tables: the opcode of its row, then the row's operand, low byte
first (R83, R90, R95, R96). -/
inductive Spells : List Byte → Instr → Prop
  | bare {op : Byte} {i : Instr} : decodeBase op = .bare i → Spells [op] i
  | imm8 {op n : Byte} {k : Byte → Instr} : decodeBase op = .imm8 k → Spells [op, n] (k n)
  | imm16 {op : Byte} {v : Word} {k : Word → Instr} : decodeBase op = .imm16 k → Spells [op, lowByte v, highByte v] (k v)
  | extended {op2 : Byte} {i : Instr} : decodeExtended op2 = i → Spells [0xCB#8, op2] i

/-- The byte after the prefix is looked up in the extended table (R88). -/
theorem decode_prefix (op2 : Byte) (rest : List Byte) :
    decode (0xCB#8 :: op2 :: rest) = .ok (decodeExtended op2, rest) := rfl

/-- The decoder answers the instruction that the first bytes spell, and the bytes after them. -/
theorem decode_append {own : List Byte} {i : Instr} (h : Spells own i) (rest : List Byte) :
    decode (own ++ rest) = .ok (i, rest) := by
  cases h with
  | bare hrow | imm8 hrow | imm16 hrow => simp [decode, hrow]
  | extended hrow =>
    rw [← hrow]
    exact decode_prefix _ rest

/-! ## Every instruction is spelled by its encoding -/

/-- Form by form: the operand codes of the form are small tables, and the decoder looks up each opcode. -/
theorem spells_encode {i : Instr} (h : i.wellFormed = true) : Spells (encode i) i := by
  induction i using Instr.forms with
  | prefixCb op2 => contradiction
  | incReg x | decReg x | ldRegAtHl x | ldAtHlReg x | aluAtHl x | addHlPair x | incPair x | decPair x | retCond x | push x
  | pop x | unused x => cases x <;> exact .bare rfl
  | ldRegReg x y | aluReg x y => cases x <;> cases y <;> exact .bare rfl
  | rst n => fin_cases n <;> exact .bare rfl
  | ldRegImm x n | aluImm x n | jrCond x n => cases x <;> exact .imm8 rfl
  | ldPairImm x v | jpCond x v | callCond x v => cases x <;> exact .imm16 rfl
  | shiftReg x r => cases x <;> cases r <;> exact .extended rfl
  | shiftAtHl x => cases x <;> exact .extended rfl
  | bitReg n r | resReg n r | setReg n r => fin_cases n <;> cases r <;> exact .extended rfl
  | bitAtHl n | resAtHl n | setAtHl n => fin_cases n <;> exact .extended rfl
  | stop | jrE8 | ldAtHlD8 | ldhAtA8A | addSpE8 | ldhAAtA8 | ldHlSpE8 => exact .imm8 rfl
  | ldAtA16Sp | jpA16 | callA16 | ldAtA16A | ldAAtA16 => exact .imm16 rfl
  | nop | ldAtBcA | rlca | ldAAtBc | rrca | ldAtDeA | rla | ldAAtDe | rra | ldAtHlIncA | daa | ldAAtHlInc | cpl | ldAtHlDecA
  | incAtHl | decAtHl | scf | ldAAtHlDec | ccf | halt | ret | reti | ldhAtCA | jpHl | ldhAAtC | di | ldSpHl | ei =>
    exact .bare rfl

/-! ## Operand codes (R85 to R87, R96, R150)

A field of the opcode goes through its table of operands and back: each table is finite. -/

theorem operandOfCode_code (k : Nat) : (operandOfCode (k % 8)).code = k % 8 := by
  have hk := Nat.mod_lt k (show 8 > 0 by decide)
  interval_cases k % 8 <;> rfl

theorem aluOfCode_code (k : Nat) : (aluOfCode (k % 8)).code = k % 8 := by
  have hk := Nat.mod_lt k (show 8 > 0 by decide)
  interval_cases k % 8 <;> rfl

theorem shiftOfCode_code (k : Nat) : (shiftOfCode (k % 8)).code = k % 8 := by
  have hk := Nat.mod_lt k (show 8 > 0 by decide)
  interval_cases k % 8 <;> rfl

theorem pairOfCode_code (k : Nat) : (pairOfCode (k % 4)).code = k % 4 := by
  have hk := Nat.mod_lt k (show 4 > 0 by decide)
  interval_cases k % 4 <;> rfl

theorem stackPairOfCode_code (k : Nat) : (stackPairOfCode (k % 4)).code = k % 4 := by
  have hk := Nat.mod_lt k (show 4 > 0 by decide)
  interval_cases k % 4 <;> rfl

theorem condOfCode_code (k : Nat) : (condOfCode (k % 4)).code = k % 4 := by
  have hk := Nat.mod_lt k (show 4 > 0 by decide)
  interval_cases k % 4 <;> rfl

/-! ## The opcodes of the forms -/

theorem encode_ldImm (d : Operand8) (n : Byte) : encode (Instr.ldImm d n) = [BitVec.ofNat 8 (0x06 + 8 * d.code), n] := by
  cases d with
  | reg r => cases r <;> rfl
  | atHl => rfl

theorem encode_ld8 (d o : Operand8) : encode (Instr.ld8 d o) = [BitVec.ofNat 8 (0x40 + 8 * d.code + o.code)] := by
  cases d with
  | reg r =>
    cases o with
    | reg q => cases r <;> cases q <;> rfl
    | atHl => cases r <;> rfl
  | atHl =>
    cases o with
    | reg q => exact encode_ldAtHlReg q
    | atHl => rfl

theorem encode_alu8 (op : AluOp) (o : Operand8) :
    encode (Instr.alu8 op o) = [BitVec.ofNat 8 (0x80 + 8 * op.code + o.code)] := by
  cases o with
  | reg r => cases op <;> cases r <;> rfl
  | atHl => cases op <;> rfl

theorem encode_aluImm (op : AluOp) (n : Byte) :
    encode (Instr.aluImm op n) = [BitVec.ofNat 8 (0xC6 + 8 * op.code), n] := by
  cases op <;> rfl

theorem encode_addHlPair (p : Pair) : encode (Instr.addHlPair p) = [BitVec.ofNat 8 (0x09 + 16 * p.code)] := by
  cases p <;> rfl

theorem encode_incPair (p : Pair) : encode (Instr.incPair p) = [BitVec.ofNat 8 (0x03 + 16 * p.code)] := by
  cases p <;> rfl

theorem encode_decPair (p : Pair) : encode (Instr.decPair p) = [BitVec.ofNat 8 (0x0B + 16 * p.code)] := by
  cases p <;> rfl

theorem encode_jpCond (cc : Cond) (a : Word) :
    encode (Instr.jpCond cc a) = [BitVec.ofNat 8 (0xC2 + 8 * cc.code), lowByte a, highByte a] := by
  cases cc <;> rfl

theorem encode_jrCond (cc : Cond) (e : Byte) : encode (Instr.jrCond cc e) = [BitVec.ofNat 8 (0x20 + 8 * cc.code), e] := by
  cases cc <;> rfl

theorem encode_shift8 (op : ShiftOp) (o : Operand8) :
    encode (Instr.shift8 op o) = [0xCB#8, BitVec.ofNat 8 (8 * op.code + o.code)] := by
  cases o with
  | reg r => cases op <;> cases r <;> rfl
  | atHl => cases op <;> rfl

/-! ## Every row is encoded with its own opcode -/

/-- What the row decodes to is encoded as the opcode `op` and the row's operand, low byte first (R90). -/
def RowOf (op : Byte) : BaseRow → Prop
  | .bare i => encode i = [op]
  | .imm8 k => ∀ n, encode (k n) = [op, n]
  | .imm16 k => ∀ v, encode (k v) = [op, lowByte v, highByte v]
  | .extended => op = 0xCB#8

section
variable {op : Byte} {m : Nat}

/-- The byte of its own value. -/
theorem byte_eq (hm : m = op.toNat) : BitVec.ofNat 8 m = op := by
  rw [hm, BitVec.ofNat_toNat, BitVec.setWidth_eq]

/-! A form's opcode is given by a formula of its operand codes: it is the row's if the formula's value is. -/

theorem RowOf.bare {i : Instr} (he : encode i = [BitVec.ofNat 8 m]) (hm : m = op.toNat) : RowOf op (.bare i) := by
  rw [RowOf, he, byte_eq hm]

theorem RowOf.imm8 {k : Byte → Instr} (he : ∀ n, encode (k n) = [BitVec.ofNat 8 m, n]) (hm : m = op.toNat) :
    RowOf op (.imm8 k) := by
  intro n
  rw [he, byte_eq hm]

theorem RowOf.imm16 {k : Word → Instr} (he : ∀ v, encode (k v) = [BitVec.ofNat 8 m, lowByte v, highByte v])
    (hm : m = op.toNat) : RowOf op (.imm16 k) := by
  intro v
  rw [he, byte_eq hm]

theorem encode_extended_eq {i : Instr} (he : encode i = [0xCB#8, BitVec.ofNat 8 m]) (hm : m = op.toNat) :
    encode i = [0xCB#8, op] := by
  rw [he, byte_eq hm]

end

/-- The rows 0x00 to 0x3F, arm by arm of the decoder: the fields that lead to an arm make up its opcode. -/
theorem decodeX0_rowOf {op : Byte} (hx : op.toNat / 64 = 0) : RowOf op (decodeX0 op) := by
  unfold decodeX0 fieldZ fieldY fieldQ fieldP fieldCc
  split
  · split
    · exact .bare rfl (by lia)
    · exact .imm16 (fun _ => rfl) (by lia)
    · exact .imm8 (fun _ => rfl) (by lia)
    · exact .imm8 (fun _ => rfl) (by lia)
    · exact .imm8 (encode_jrCond _) (by rw [condOfCode_code]; lia)
  · split
    · exact .imm16 (encode_ldPairImm _) (by rw [pairOfCode_code]; lia)
    · exact .bare (encode_addHlPair _) (by rw [pairOfCode_code]; lia)
  · split <;> exact .bare rfl (by lia)
  · split
    · exact .bare (encode_incPair _) (by rw [pairOfCode_code]; lia)
    · exact .bare (encode_decPair _) (by rw [pairOfCode_code]; lia)
  · exact .bare (encode_inc8 _) (by rw [operandOfCode_code]; lia)
  · exact .bare (encode_dec8 _) (by rw [operandOfCode_code]; lia)
  · exact .imm8 (encode_ldImm _) (by rw [operandOfCode_code]; lia)
  · split <;> exact .bare rfl (by lia)

/-- The rows 0xC0 to 0xFF, in the same way; the last arm of each inner choice is the one that reads a field on. -/
theorem decodeX3_rowOf {op : Byte} (hx : op.toNat / 64 = 3) : RowOf op (decodeX3 op) := by
  unfold decodeX3 fieldZ fieldY fieldP fieldCc
  split
  · split
    case h_5 => exact .bare (encode_retCond _) (by rw [condOfCode_code]; lia)
    all_goals exact .imm8 (fun _ => rfl) (by lia)
  · split
    case h_5 => exact .bare (encode_pop _) (by rw [stackPairOfCode_code]; lia)
    all_goals exact .bare rfl (by lia)
  · split
    · exact .bare rfl (by lia)
    · exact .imm16 (fun _ => rfl) (by lia)
    · exact .bare rfl (by lia)
    · exact .imm16 (fun _ => rfl) (by lia)
    · exact .imm16 (encode_jpCond _) (by rw [condOfCode_code]; lia)
  · split
    case h_1 => exact .imm16 (fun _ => rfl) (by lia)
    case h_2 => exact (byte_eq (m := 0xCB) (by lia)).symm
    all_goals exact .bare rfl (by lia)
  · split
    case h_5 => exact .imm16 (encode_callCond _) (by rw [condOfCode_code]; lia)
    all_goals exact .bare rfl (by lia)
  · split
    case h_1 => exact .imm16 (fun _ => rfl) (by lia)
    case h_5 => exact .bare (encode_push _) (by rw [stackPairOfCode_code]; lia)
    all_goals exact .bare rfl (by lia)
  · exact .imm8 (encode_aluImm _) (by rw [aluOfCode_code]; lia)
  · exact .bare (encode_rst _) (by simp only [fieldBit]; lia)

/-- Every row of the base table, by its quarter. -/
theorem decodeBase_rowOf (op : Byte) : RowOf op (decodeBase op) := by
  have hop := op.isLt
  unfold decodeBase fieldX fieldY fieldZ
  split
  · next hx => exact decodeX0_rowOf hx
  · exact .bare (encode_ld8 _ _) (by rw [operandOfCode_code, operandOfCode_code]; lia)
  · exact .bare (encode_alu8 _ _) (by rw [aluOfCode_code, operandOfCode_code]; lia)
  · exact decodeX3_rowOf (by lia)

theorem rowOf_of_decodeBase {op : Byte} {row : BaseRow} (h : decodeBase op = row) : RowOf op row :=
  h ▸ decodeBase_rowOf op

/-- The extended rows in the same way. -/
theorem encode_decodeExtended (op2 : Byte) : encode (decodeExtended op2) = [0xCB#8, op2] := by
  have hop := op2.isLt
  unfold decodeExtended fieldX fieldY fieldZ fieldBit
  split
  · exact encode_extended_eq (encode_shift8 _ _) (by rw [shiftOfCode_code, operandOfCode_code]; lia)
  · exact encode_extended_eq (encode_bit8 _ _) (by rw [operandOfCode_code]; lia)
  · exact encode_extended_eq (encode_res8 _ _) (by rw [operandOfCode_code]; lia)
  · exact encode_extended_eq (encode_set8 _ _) (by rw [operandOfCode_code]; lia)

/-! ## Decoding, and encoding what was decoded -/

/-- The prefix row alone is ill formed (R88). -/
theorem wellFormed_or_prefixCb (i : Instr) : i.wellFormed = true ∨ ∃ op2, i = .prefixCb op2 := by
  unfold Instr.wellFormed
  split
  · exact .inr ⟨_, rfl⟩
  · exact .inl rfl

theorem decodeExtended_wellFormed (op2 : Byte) : (decodeExtended op2).wellFormed = true := by
  revert op2
  decide

/-- What the bytes spell is encoded as these bytes. -/
theorem Spells.encode_eq {own : List Byte} {i : Instr} (h : Spells own i) : encode i = own := by
  cases h with
  | bare hrow => exact rowOf_of_decodeBase hrow
  | imm8 hrow | imm16 hrow => exact rowOf_of_decodeBase hrow _
  | extended hrow => rw [← hrow, encode_decodeExtended]

/-- No bytes spell the prefix row: its own bytes spell the extended row (R88). -/
theorem not_spells_prefixCb (own : List Byte) (op2 : Byte) : ¬ Spells own (.prefixCb op2) := by
  intro h
  obtain rfl : [0xCB#8, op2] = own := h.encode_eq
  have hdecode : decode [0xCB#8, op2] = .ok (.prefixCb op2, []) := decode_append h []
  have hrow : decodeExtended op2 = .prefixCb op2 := by
    rw [decode_prefix] at hdecode
    simpa using hdecode
  have hwf := decodeExtended_wellFormed op2
  rw [hrow] at hwf
  contradiction

theorem Spells.wellFormed {own : List Byte} {i : Instr} (h : Spells own i) : i.wellFormed = true := by
  rcases wellFormed_or_prefixCb i with hwf | ⟨op2, rfl⟩
  · exact hwf
  · exact absurd h (not_spells_prefixCb own op2)

/-- What the decoder answers is spelled by the bytes it took. -/
theorem spells_of_decode {bytes rest : List Byte} {i : Instr} (h : decode bytes = .ok (i, rest)) :
    ∃ own, Spells own i ∧ bytes = own ++ rest := by
  cases bytes with
  | nil => contradiction
  | cons op tl =>
    cases hrow : decodeBase op with
    | bare j =>
      simp only [decode, hrow, Except.ok.injEq, Prod.mk.injEq] at h
      obtain ⟨rfl, rfl⟩ := h
      exact ⟨[op], .bare hrow, rfl⟩
    | imm8 k =>
      match tl with
      | [] => simp [decode, hrow] at h
      | n :: rest' =>
        simp only [decode, hrow, Except.ok.injEq, Prod.mk.injEq] at h
        obtain ⟨rfl, rfl⟩ := h
        exact ⟨[op, n], .imm8 hrow, rfl⟩
    | imm16 k =>
      match tl with
      | [] | [lo] => simp [decode, hrow] at h
      | lo :: hi :: rest' =>
        simp only [decode, hrow, Except.ok.injEq, Prod.mk.injEq] at h
        obtain ⟨rfl, rfl⟩ := h
        exact ⟨[op, lo, hi], by simpa using Spells.imm16 (v := joinBytes hi lo) hrow, rfl⟩
    | extended =>
      obtain rfl : op = 0xCB#8 := rowOf_of_decodeBase hrow
      match tl with
      | [] => contradiction
      | op2 :: rest' =>
        rw [decode_prefix] at h
        simp only [Except.ok.injEq, Prod.mk.injEq] at h
        obtain ⟨hi, rfl⟩ := h
        exact ⟨[0xCB#8, op2], .extended hi, rfl⟩

/-- Settles O2: the encoding of a well-formed instruction spells it. -/
theorem decodeAfterEncodeIsIdentity : Obligations.DecodeAfterEncodeIsIdentity :=
  fun _ rest hwf => decode_append (spells_encode hwf) rest

/-- Settles O3: the bytes a decoder takes are the encoding of what they spell. -/
theorem encodeAfterDecodeIsIdentity : Obligations.EncodeAfterDecodeIsIdentity := by
  intro bytes i rest h
  obtain ⟨own, hspells, rfl⟩ := spells_of_decode h
  exact ⟨hspells.wellFormed, by rw [hspells.encode_eq]⟩

/-- Settles O4: three bytes always decode, and the bytes after them do not matter. -/
theorem decodingIsTotalWithLengthFromFirstByte : Obligations.DecodingIsTotalWithLengthFromFirstByte := by
  intro op b1 b2 rest
  obtain ⟨hpos, hmax⟩ := instrLength_bounds op
  obtain ⟨i, unread, hdecode⟩ := decode_three_ok op b1 b2
  obtain ⟨hlength, -⟩ := decode_three hdecode
  obtain ⟨own, hspells, hbytes⟩ := spells_of_decode hdecode
  have hown : own.length = instrLength op := by
    have hthree := congrArg List.length hbytes
    rw [List.length_append] at hthree
    simp only [List.length_cons, List.length_nil] at hthree
    omega
  have hall : op :: b1 :: b2 :: rest = own ++ (unread ++ rest) := by
    rw [← List.append_assoc, ← hbytes]
    rfl
  refine ⟨hpos, hmax, i, ?_, by rw [hspells.encode_eq, hown]⟩
  rw [hall, ← hown, List.drop_left]
  exact decode_append hspells _

/-! ## The unused opcodes (R97) -/

/-- Every unused row is one byte. -/
theorem spells_unused (u : UnusedOpcode) : Spells [u.byte] (Instr.unused u) := by
  cases u <;> exact .bare rfl

/-- A decoder answers an unused row for its own opcode alone. -/
theorem decode_unused_iff (u : UnusedOpcode) (bytes rest : List Byte) :
    decode bytes = .ok (Instr.unused u, rest) ↔ bytes = u.byte :: rest := by
  constructor
  · intro h
    obtain ⟨own, hspells, rfl⟩ := spells_of_decode h
    rw [← hspells.encode_eq, (spells_unused u).encode_eq]
    rfl
  · rintro rfl
    exact decode_append (spells_unused u) rest

/-- The list of R97. -/
theorem exists_unused_iff (op : Byte) : (∃ u : UnusedOpcode, op = u.byte) ↔
    op ∈ [0xD3#8, 0xDB#8, 0xDD#8, 0xE3#8, 0xE4#8, 0xEB#8, 0xEC#8, 0xED#8, 0xF4#8, 0xFC#8, 0xFD#8] := by
  constructor
  · rintro ⟨u, rfl⟩
    cases u <;> decide
  · revert op
    simp only [List.forall_mem_cons]
    exact ⟨⟨.xD3, rfl⟩, ⟨.xDB, rfl⟩, ⟨.xDD, rfl⟩, ⟨.xE3, rfl⟩, ⟨.xE4, rfl⟩, ⟨.xEB, rfl⟩, ⟨.xEC, rfl⟩, ⟨.xED, rfl⟩, ⟨.xF4, rfl⟩,
      ⟨.xFC, rfl⟩, ⟨.xFD, rfl⟩, by simp⟩

/-- Settles O5: an unused row is decoded from its own opcode alone, and none of those is the prefix. -/
theorem unusedOpcodesAreTheElevenOfTheTable : Obligations.UnusedOpcodesAreTheElevenOfTheTable := by
  refine ⟨fun op rest => ?_, fun op2 rest u h => ?_⟩
  · rw [← exists_unused_iff]
    simp only [decode_unused_iff, List.cons.injEq, and_true]
  · have hlength := congrArg List.length ((decode_unused_iff u _ _).mp h)
    simp at hlength

/-! ## The prefix row (R286) -/

/-- Settles O6: the byte after the prefix is looked up in the extended table, by the decoder and by the row's meaning alike. -/
theorem prefixRunsTheExtendedRow : Obligations.PrefixRunsTheExtendedRow := by
  intro op2 s
  obtain ⟨t, ht, -⟩ := exec_within (.prefixCb op2) s
  refine ⟨rfl, fun rest => ⟨decodeExtended op2, decode_prefix op2 rest, ?_⟩, t, ht⟩
  rw [exec_prefixCb, execExtended_eq]

end Sys2Proof.Machine
end

section
/-! PROOFS. The boundary of a waiting core (R82, R315, R316), the cost of every instruction (R95, R96, R104), and the conditional
jumps (R203, R206). -/

namespace Sys2Proof.Machine

/-! ## The boundary of a waiting core -/

theorem stoppedBoundary_eq (s : State) : stoppedBoundary s =
    .next (if s.cfg.stopWakeConnected && s.stopWake then { s with stopped := false, cr := 4 } else s) := by
  unfold stoppedBoundary State.stopWakeLine
  split <;> rfl

theorem State.irqLines_ne_zero_iff (s : State) : s.irqLines ≠ 0#5 ↔ s.cfg.irqConnected = true ∧ s.irqReq ≠ 0#5 := by
  unfold State.irqLines
  split <;> simp [*]

theorem haltedBoundary_eq (s : State) : haltedBoundary s =
    .next (if s.cfg.irqConnected = true ∧ s.irqReq ≠ 0#5 then { s with halted := false, cr := 4 } else s) := by
  rw [← if_congr s.irqLines_ne_zero_iff rfl rfl]
  unfold haltedBoundary
  split <;> rfl

/-- Settles O14: the boundary action looks at `stopped` and then at `halted`, with the levels of this tick. -/
theorem stoppedAndHaltedCoresWaitForTheirWakeUp : Obligations.StoppedAndHaltedCoresWaitForTheirWakeUp := by
  intro s hlive hcr u
  obtain ⟨hstopped, hhalted, hcfg⟩ : u.stopped = s.stopped ∧ u.halted = s.halted ∧ u.cfg = s.cfg := by
    unfold u
    rw [State.sampleInputs_eq]
    exact ⟨rfl, rfl, rfl⟩
  rw [step_boundary hlive hcr, State.countDown_last hcr, ← hcfg]
  refine ⟨fun hs => ?_, fun hs hh => ?_⟩
  · rw [boundary, if_pos (hstopped.trans hs), stoppedBoundary_eq]
  · rw [boundary, if_neg (by simpa [u, hstopped] using hs), if_pos (hhalted.trans hh), haltedBoundary_eq]

/-! ## The cost of every instruction -/

theorem cr_of_finish {k : Nat} {s t : State} (h : finish k s = .next t) : t.cr = k := by
  cases h
  rfl

theorem cr_of_jumpIf {cc : Cond} {k k' : Nat} {a : Word} {s t : State} (h : jumpIf cc k k' a s = .next t) :
    t.cr = if s.cond cc then k else k' := by
  rw [jumpIf_eq] at h
  exact cr_of_finish h

theorem cr_of_callIf {cc : Cond} {a : Word} {s t : State} (h : callIf cc a s = .next t) :
    t.cr = if s.cond cc then 24 else 12 := by
  unfold callIf at h
  split at h
  · next hc => rw [if_pos hc, cr_of_finish h]
  · next hc => rw [if_neg hc, cr_of_finish h]

theorem cr_of_returnIf {cc : Cond} {s t : State} (h : returnIf cc s = .next t) :
    t.cr = if s.cond cc then 20 else 8 := by
  unfold returnIf at h
  split at h
  · next hc => rw [if_pos hc, cr_of_finish h]
  · next hc => rw [if_neg hc, cr_of_finish h]

theorem cr_of_unusedOpcode {u : UnusedOpcode} {s t : State} (h : unusedOpcode u s = .next t) : t.cr = 4 := by
  rw [unusedOpcode_eq] at h
  exact cr_of_finish h

theorem cr_of_enterHalt {s t : State} (h : enterHalt s = .next t) : t.cr = 4 := by
  rw [enterHalt_eq] at h
  exact cr_of_finish h

/-- A cost chosen by a condition is one of the table's two. -/
theorem tableCost_of_ite {i : Instr} {b : Bool} {n k k' : Nat} (h : n = if b then k else k') (hk : k = instrCyclesTaken i)
    (hk' : k' = instrCycles i) : n = instrCycles i ∨ n = instrCyclesTaken i := by
  cases b with
  | true => exact .inr (h.trans hk)
  | false => exact .inl (h.trans hk')

/-- Form by form: the shared operation's cost is the cost in the form's rows. -/
theorem exec_cost_of_wellFormed {i : Instr} {s t : State} (hwf : i.wellFormed = true) (h : exec i s = .next t) :
    t.cr = instrCycles i ∨ t.cr = instrCyclesTaken i := by
  induction i using Instr.forms with
  | prefixCb => contradiction
  | jpCond cc a =>
    rw [exec_jpCond] at h
    exact tableCost_of_ite (cr_of_jumpIf h) (by cases cc <;> rfl) (by cases cc <;> rfl)
  | jrCond cc e =>
    rw [exec_jrCond] at h
    exact tableCost_of_ite (cr_of_jumpIf h) (by cases cc <;> rfl) (by cases cc <;> rfl)
  | callCond cc a =>
    rw [exec_callCond] at h
    exact tableCost_of_ite (cr_of_callIf h) (by cases cc <;> rfl) (by cases cc <;> rfl)
  | retCond cc =>
    rw [exec_retCond] at h
    exact tableCost_of_ite (cr_of_returnIf h) (by cases cc <;> rfl) (by cases cc <;> rfl)
  | unused u =>
    rw [exec_unused] at h
    exact .inl ((cr_of_unusedOpcode h).trans (by cases u <;> rfl))
  | halt => exact .inl (cr_of_enterHalt h)
  | ldRegReg x y | aluReg x y | shiftReg x y =>
    simp only [exec_ldRegReg, exec_aluReg, exec_shiftReg] at h
    exact .inl ((cr_of_finish h).trans (by cases x <;> cases y <;> rfl))
  | bitReg n r | resReg n r | setReg n r =>
    simp only [exec_bitReg, exec_resReg, exec_setReg] at h
    exact .inl ((cr_of_finish h).trans (by fin_cases n <;> cases r <;> rfl))
  | bitAtHl n | resAtHl n | setAtHl n | rst n =>
    simp only [exec_bitAtHl, exec_resAtHl, exec_setAtHl, exec_rst] at h
    exact .inl ((cr_of_finish h).trans (by fin_cases n <;> rfl))
  | ldRegImm x n | ldPairImm x n | aluImm x n =>
    simp only [exec_ldRegImm, exec_ldPairImm, exec_aluImm] at h
    exact .inl ((cr_of_finish h).trans (by cases x <;> rfl))
  | ldRegAtHl x | ldAtHlReg x | aluAtHl x | incReg x | decReg x | addHlPair x | incPair x | decPair x | push x | pop x
  | shiftAtHl x =>
    simp only [exec_ldRegAtHl, exec_ldAtHlReg, exec_aluAtHl, exec_incReg, exec_decReg, exec_addHlPair, exec_incPair,
      exec_decPair, exec_push, exec_pop, exec_shiftAtHl] at h
    exact .inl ((cr_of_finish h).trans (by cases x <;> rfl))
  | ldAtA16Sp | stop | jrE8 | ldAtHlD8 | jpA16 | callA16 | ldhAtA8A | addSpE8 | ldAtA16A | ldhAAtA8 | ldHlSpE8 | ldAAtA16
  | nop | ldAtBcA | rlca | ldAAtBc | rrca | ldAtDeA | rla | ldAAtDe | rra | ldAtHlIncA | daa | ldAAtHlInc | cpl | ldAtHlDecA
  | incAtHl | decAtHl | scf | ldAAtHlDec | ccf | ret | reti | ldhAtCA | jpHl | ldhAAtC | di | ldSpHl | ei =>
    exact .inl (cr_of_finish h)

/-- The prefix row costs what the extended row it runs costs: they have the same bytes. -/
theorem exec_cost {i : Instr} {s t : State} (h : exec i s = .next t) : t.cr = instrCycles i ∨ t.cr = instrCyclesTaken i := by
  rcases wellFormed_or_prefixCb i with hwf | ⟨op2, rfl⟩
  · exact exec_cost_of_wellFormed hwf h
  · rw [exec_prefixCb, execExtended_eq] at h
    have hcost := exec_cost_of_wellFormed (decodeExtended_wellFormed op2) h
    have hbytes : encode (decodeExtended op2) = encode (.prefixCb op2) := encode_decodeExtended op2
    simpa only [instrCycles, instrCyclesTaken, hbytes] using hcost

/-- Settles O19. -/
theorem costIsTheTablesForEveryInstruction : Obligations.CostIsTheTablesForEveryInstruction := by
  refine ⟨fun _ _ _ => exec_cost, fun cc a e s t => ?_⟩
  rw [exec_jpCond, exec_jrCond, exec_callCond, exec_retCond]
  exact ⟨cr_of_jumpIf, cr_of_jumpIf, cr_of_callIf, cr_of_returnIf⟩

/-! ## JP cc,a16 and JR cc,e8 -/

theorem jumpIf_jumps (cc : Cond) (k k' : Nat) (a : Word) (s : State) :
    ∃ t, jumpIf cc k k' a s = .next t ∧ t.pc = (if s.holds cc then a else s.pc) ∧ t.cr = (if s.holds cc then k else k') ∧
      State.SameRegsExcept [] s t ∧ t.f = s.f ∧ t.sp = s.sp ∧ State.SameMemory s t ∧ State.Transacts [] s t ∧
      State.SameControl s t := by
  rw [State.holds_eq_cond]
  exact ⟨_, jumpIf_eq s cc k k' a, rfl, rfl, fun q _ => by simp, rfl, rfl, fun _ => rfl, State.transacts_none rfl rfl,
    by simp [State.SameControl]⟩

/-- Settles O48: one conditional jump, to an absolute and to a relative target. -/
theorem conditionalJumpsFollowTheirCondition : Obligations.ConditionalJumpsFollowTheirCondition := by
  intro cc a e s holds
  obtain ⟨t, hjr, hpc, hrest⟩ := jumpIf_jumps cc 12 8 (s.relativeTarget e) s
  rw [exec_jpCond, exec_jrCond]
  refine ⟨⟨encode_jpCond cc a, jumpIf_jumps cc 16 12 a s⟩, encode_jrCond cc e, t, hjr, ?_, hrest⟩
  rw [hpc, apply_ite BitVec.toNat, Nat.cast_ite, State.relativeTarget, addSigned_toNat]

end Sys2Proof.Machine
end

section
/-! PROOFS. The loads of a register from a register or an immediate (R111, R112), and fixed words of the spec's encodings. -/

namespace Sys2Proof.Machine

/-! ## LD r,r' and LD r,d8 -/

/-- A load with no access to memory is one write of its register. -/
theorem finish_setReg_loads (cost : Nat) (dst : Reg) (v : Byte) (s : State) :
    ∃ t, finish cost (s.setReg dst v) = .next t ∧ t.reg dst = v ∧ State.SameRegsExcept [dst] s t ∧
      t.f = s.f ∧ t.sp = s.sp ∧ t.pc = s.pc ∧ t.cr = cost ∧ State.SameMemory s t ∧ State.Transacts [] s t ∧
      State.SameControl s t := by
  refine ⟨(s.setReg dst v).setCr cost, rfl, by simp, fun q hq => ?_, by simp, by simp, by simp, rfl, fun a => by simp,
    State.transacts_none (by simp) (by simp), by simp [State.SameControl]⟩
  have hne : q ≠ dst := by simpa using hq
  simp [hne]

/-- Settles O27: both forms write one value into the destination, the source read before the write. -/
theorem registerLoadsCopyTheirSource : Obligations.RegisterLoadsCopyTheirSource := by
  intro dst src n s
  rw [exec_ldRegReg, exec_ldRegImm]
  exact ⟨⟨encode_ld8 (.reg dst) (.reg src), finish_setReg_loads 4 dst (s.reg src) s⟩,
    encode_ldImm (.reg dst) n, finish_setReg_loads 8 dst n s⟩

/-! ## Words of the spec -/

theorem decode_of_encode_eq {i : Instr} {word : List Byte} (hwf : i.wellFormed = true) (he : encode i = word) :
    decode word = .ok (i, []) := by
  rw [← he, ← decodeAfterEncodeIsIdentity i [] hwf, List.append_nil]

/-- Settles O1: each word is the encoding of its instruction, and so decodes to it (O2). -/
theorem decodesWordsOfTheSpec : Obligations.DecodesWordsOfTheSpec := by
  refine ⟨?_, ?_, ?_, ?_, ?_, ?_, ?_, ?_, ?_, ?_, ?_⟩ <;> exact decode_of_encode_eq rfl rfl

end Sys2Proof.Machine
end

section
/-! PROOFS. The steps of a pair and the copy of HL into SP (R143, R192, R193). -/

namespace Sys2Proof.Machine

/-! ## INC rr, DEC rr and LD SP,HL -/

/-- A meaning with no access to memory that ends in a write of a pair changes nothing else. -/
theorem finish_setPair_writes (cost : Nat) (p : Pair) (v : Word) (s : State) :
    ∃ t, finish cost (s.setPair p v) = .next t ∧ t.pair p = v ∧ State.SameRegsExcept (pairRegs p) s t ∧
      (p ≠ .sp → t.sp = s.sp) ∧ t.f = s.f ∧ t.pc = s.pc ∧ t.cr = cost ∧ State.SameMemory s t ∧ State.Transacts [] s t ∧
      State.SameControl s t :=
  ⟨(s.setPair p v).setCr cost, rfl, s.pair_setPair p v, s.sameRegsExcept_setPair p v, s.setPair_sp_of_ne v, by simp,
    by simp, rfl, fun a => by simp, State.transacts_none (by simp) (by simp), by simp [State.SameControl]⟩

/-- Settles O35: the three forms are one write of a pair, and SP is the pair that LD SP,HL writes. -/
theorem pairStepsWrapAndWriteNoFlag : Obligations.PairStepsWrapAndWriteNoFlag := by
  intro p s
  rw [exec_incPair, exec_decPair, exec_ldSpHl]
  refine ⟨⟨encode_incPair p, ?_⟩, ⟨encode_decPair p, ?_⟩, rfl, ?_⟩
  · obtain ⟨t, hnext, hpair, hframe⟩ := finish_setPair_writes 8 p (s.pair p + 1#16) s
    exact ⟨t, hnext, by rw [hpair, BitVec.toNat_add]; rfl, hframe⟩
  · obtain ⟨t, hnext, hpair, hframe⟩ := finish_setPair_writes 8 p (s.pair p - 1#16) s
    exact ⟨t, hnext, by rw [hpair, BitVec.toNat_sub, Nat.add_comm]; rfl, hframe⟩
  · obtain ⟨t, hnext, hsp, hregs, -, hframe⟩ := finish_setPair_writes 8 .sp s.hl s
    exact ⟨t, hnext, hsp, hregs, hframe⟩

end Sys2Proof.Machine
end

section
/-! PROOFS. 8-bit arithmetic and logic on A: the eight operations of R150 in their three forms, DAA (R180), and CPL, SCF and CCF
(R181 to R183). Each is a write of A and of F, after at most one read. -/

namespace Sys2Proof.Machine

/-! ## Writes of A and F -/

/-- From `s` to `t` at this cost, these transactions are made, and nothing but A, F and `cr` is written. -/
def State.AccStep (cost : Nat) (evs : List BusEvent) (s t : State) : Prop :=
  State.SameRegsExcept [.a] s t ∧ t.sp = s.sp ∧ t.pc = s.pc ∧ t.cr = cost ∧ State.SameMemory s t ∧
    State.Transacts evs s t ∧ State.SameControl s t

/-- A write of A and of the flags leaves all else. -/
theorem State.accStep_setA_setFlags (s : State) (v : Byte) (fl : Flags) (cost : Nat) :
    let t := ((s.setReg .a v).setFlags fl).setCr cost
    t.a = v ∧ State.FlagsAre t fl.z fl.n fl.h fl.c ∧ State.AccStep cost [] s t := by
  refine ⟨rfl, State.flagsAre_of_f rfl, fun q hq => ?_, rfl, rfl, rfl, fun _ => rfl, State.transacts_none rfl rfl,
    by simp [State.SameControl]⟩
  have hne : q ≠ .a := by simpa using hq
  simp [hne]

/-- A read before the writes is one transaction more. -/
theorem State.AccStep.of_afterRead {cost : Nat} {a : Word} {s t : State} (h : State.AccStep cost [] (s.afterRead a) t) :
    State.AccStep cost [.read a (s.answer a)] s t := by
  obtain ⟨hregs, hsp, hpc, hcr, hmem, htr, hcontrol⟩ := h
  exact ⟨fun q hq => (hregs q hq).trans (s.reg_afterRead q a), hsp, hpc, hcr, hmem, (s.transacts_afterRead a).trans htr rfl,
    hcontrol⟩

/-! ## The operations of R150 -/

/-- An ALU operation writes A and F; CP writes back the A there was. -/
theorem State.accStep_alu (s : State) (op : AluOp) (v : Byte) (cost : Nat) :
    let r := aluResult op s.a v s.flagC
    let t := (s.alu op v).setCr cost
    t.a = (if aluWritesA op then r.value else s.a) ∧ State.FlagsAre t r.flags.z r.flags.n r.flags.h r.flags.c ∧
      State.AccStep cost [] s t := by
  intro r
  have halu : s.alu op v = (s.setReg .a (if aluWritesA op then r.value else s.a)).setFlags r.flags := by
    cases op <;> rfl
  rw [halu]
  exact s.accStep_setA_setFlags _ r.flags cost

/-- An operation of R150 in any of its forms: the operand is read before A and F are written. -/
theorem exec_aluSource (op : AluOp) (src : AluSource) (s : State) :
    let r := aluResult op s.a (src.value s) s.flagC
    ∃ t, exec (src.instr op) s = .next t ∧ t.a = (if aluWritesA op then r.value else s.a) ∧
      State.FlagsAre t r.flags.z r.flags.n r.flags.h r.flags.c ∧ State.AccStep src.cost (src.reads s) s t := by
  cases src with
  | reg q => exact ⟨_, exec_aluReg s op q, s.accStep_alu op (s.reg q) 4⟩
  | imm n => exact ⟨_, exec_aluImm s op n, s.accStep_alu op n 8⟩
  | atHl =>
    obtain ⟨ha, hflags, hstep⟩ := (s.afterRead s.hl).accStep_alu op (s.answer s.hl) 8
    exact ⟨_, exec_aluAtHl s op, ha, hflags, hstep.of_afterRead⟩

theorem encode_aluSource (op : AluOp) (src : AluSource) : encode (src.instr op) = src.bytes op := by
  cases src with
  | reg q => exact encode_alu8 op (.reg q)
  | atHl => cases op <;> rfl
  | imm n => exact encode_aluImm op n

/-! ## ADD, ADC, SUB, SBC and CP -/

/-- ADC is ADD with the carry (R151, R152, R155). -/
theorem aluResult_add (withCarry : Bool) (a v : Byte) (c : Bool) :
    aluResult (if withCarry then .adc else .add) a v c = add8 a v (withCarry && c) := by
  cases withCarry <;> rfl

/-- SBC is SUB with the borrow (R151, R158, R161). -/
theorem aluResult_sub (withCarry : Bool) (a v : Byte) (c : Bool) :
    aluResult (if withCarry then .sbc else .sub) a v c = sub8 a v (withCarry && c) := by
  cases withCarry <;> rfl

/-- A difference, modulo 256 (R151). -/
theorem sub8_value_toNat (a v : Byte) (cin : Bool) :
    (sub8 a v cin).value.toNat = (a.toNat + 512 - v.toNat - carryNat cin) % 256 := by
  have hcin : carryNat cin ≤ 1 := by cases cin <;> decide
  have hv := v.isLt
  rw [sub8, BitVec.toNat_ofInt]
  omega

/-- Settles O38: the sum of `add8`, which is integer arithmetic, in every form. -/
theorem addAndAdcAddWithCarries : Obligations.AddAndAdcAddWithCarries := by
  intro withCarry src s op v cin
  have hwrites : aluWritesA op = true := by cases withCarry <;> rfl
  obtain ⟨t, hnext, ha, hflags, hframe⟩ := exec_aluSource op src s
  rw [if_pos hwrites, aluResult_add] at ha
  rw [aluResult_add] at hflags
  refine ⟨encode_aluSource op src, t, hnext, ?_, ?_, hframe⟩
  · rw [ha]
    exact BitVec.toNat_ofNat _ 8
  · rw [ha]
    exact hflags

/-- Settles O39: the difference of `sub8`, which is integer arithmetic, in every form. -/
theorem subAndSbcSubtractWithBorrows : Obligations.SubAndSbcSubtractWithBorrows := by
  intro withCarry src s op v cin
  have hwrites : aluWritesA op = true := by cases withCarry <;> rfl
  obtain ⟨t, hnext, ha, hflags, hframe⟩ := exec_aluSource op src s
  rw [if_pos hwrites, aluResult_sub] at ha
  rw [aluResult_sub] at hflags
  refine ⟨encode_aluSource op src, t, hnext, ?_, ?_, hframe⟩
  · rw [ha]
    exact sub8_value_toNat _ _ _
  · rw [ha]
    exact hflags

/-- A difference without borrow is 0 exactly of equal bytes (R173). -/
theorem sub8_value_eq_zero_iff (a v : Byte) : (sub8 a v false).value = 0#8 ↔ a.toNat = v.toNat := by
  have ha := a.isLt
  have hv := v.isLt
  rw [← BitVec.toNat_inj, sub8_value_toNat, BitVec.toNat_ofNat, carryNat]
  simp only [Bool.false_eq_true, if_false]
  omega

/-- Settles O41: the flags are those of SUB, and A is the A there was. -/
theorem cpSetsTheFlagsOfSubAndKeepsA : Obligations.CpSetsTheFlagsOfSubAndKeepsA := by
  intro src s v
  obtain ⟨t, hnext, ha, hflags, hregs, hframe⟩ := exec_aluSource .cp src s
  refine ⟨encode_aluSource .cp src, t, hnext, ?_, fun q _ => ?_, hframe⟩
  · rw [← decide_eq_decide.mpr (sub8_value_eq_zero_iff s.a (src.value s))]
    exact hflags
  · by_cases hq : q = .a
    · rw [hq]
      exact ha
    · exact hregs q (by simpa using hq)

/-! ## AND, XOR and OR -/

/-- Settles O40: each operation is the bitwise one on bytes. -/
theorem logicOperationsActBitByBit : Obligations.LogicOperationsActBitByBit := by
  intro op src s hop
  obtain ⟨t, hnext, ha, hflags, hframe⟩ := exec_aluSource op src s
  refine ⟨encode_aluSource op src, t, hnext, ?_⟩
  simp only [List.mem_cons, List.not_mem_nil, or_false] at hop
  rcases hop with rfl | rfl | rfl <;> rw [aluWritesA, if_pos rfl] at ha <;> rw [ha]
  · exact ⟨fun k _ => BitVec.getLsbD_and, hflags, hframe⟩
  · exact ⟨fun k _ => BitVec.getLsbD_xor, hflags, hframe⟩
  · exact ⟨fun k _ => BitVec.getLsbD_or, hflags, hframe⟩

/-! ## CPL, SCF and CCF -/

/-- The complement of a byte is what it lacks to 255. -/
theorem not_eq_ofNat_sub (a : Byte) : ~~~a = BitVec.ofNat 8 (255 - a.toNat) := by
  apply BitVec.eq_of_toNat_eq
  rw [BitVec.toNat_not, BitVec.toNat_ofNat]
  omega

/-- Settles O46: SCF and CCF write back the A there was. -/
theorem cplScfAndCcfWriteTheirFlags : Obligations.CplScfAndCcfWriteTheirFlags := by
  intro s i op a n h c hrow
  simp only [List.mem_cons, List.not_mem_nil, or_false, Prod.mk.injEq, ← not_eq_ofNat_sub] at hrow
  rcases hrow with ⟨rfl, rfl, rfl, rfl, rfl, rfl⟩ | ⟨rfl, rfl, rfl, rfl, rfl, rfl⟩ | ⟨rfl, rfl, rfl, rfl, rfl, rfl⟩
  · exact ⟨rfl, _, exec_cpl s, s.accStep_setA_setFlags (~~~s.a) ⟨s.flagZ, true, true, s.flagC⟩ 4⟩
  · exact ⟨rfl, _, exec_scf s, s.accStep_setA_setFlags s.a ⟨s.flagZ, false, false, true⟩ 4⟩
  · exact ⟨rfl, _, exec_ccf s, s.accStep_setA_setFlags s.a ⟨s.flagZ, false, false, !s.flagC⟩ 4⟩

/-! ## DAA -/

/-- When DAA corrects the high digit; it is also the carry it leaves (R180). -/
def daaHigh (v : Nat) (n c : Bool) : Bool :=
  c || (!n && decide (v > 0x99))

/-- When DAA corrects the low digit (R180). -/
def daaLow (v : Nat) (n h : Bool) : Bool :=
  h || (!n && decide (v % 16 > 9))

theorem daaHigh_sub (v : Nat) (c : Bool) : daaHigh v true c = c := Bool.or_false c

theorem daaHigh_add (v : Nat) (c : Bool) : daaHigh v false c = (c || decide (v > 0x99)) := rfl

theorem daaLow_sub (v : Nat) (h : Bool) : daaLow v true h = h := Bool.or_false h

theorem daaLow_add (v : Nat) (h : Bool) : daaLow v false h = (h || decide (v % 16 > 9)) := rfl

/-- What DAA adds to A or takes from it (R180). -/
def daaAdjust (v : Nat) (n h c : Bool) : Nat :=
  (if daaHigh v n c then 0x60 else 0) + (if daaLow v n h then 0x06 else 0)

/-- The integer that DAA narrows to A (R180); 512 keeps a difference from below 0. -/
def daaSum (v : Nat) (n h c : Bool) : Nat :=
  if n then v + 512 - daaAdjust v n h c else v + daaAdjust v n h c

theorem ofInt_eq_ofNat {x : Int} {k : Nat} (h : x % 256 = k % 256) : BitVec.ofInt 8 x = BitVec.ofNat 8 k := by
  apply BitVec.eq_of_toNat_eq
  rw [BitVec.toNat_ofInt, BitVec.toNat_ofNat]
  omega

/-- After a subtraction DAA takes away both corrections (R180). -/
theorem ofInt_daa_sub (v : Nat) (h c : Bool) :
    BitVec.ofInt 8 (if h then (if c then (v : Int) - 0x60 else v) - 0x06 else if c then (v : Int) - 0x60 else v) =
      BitVec.ofNat 8 (daaSum v true h c) := by
  apply ofInt_eq_ofNat
  simp only [daaSum, daaAdjust, daaHigh_sub, daaLow_sub, if_true]
  split_ifs <;> omega

/-- After an addition DAA adds both corrections. The low one is decided after the high one is added, which is a multiple of 16 and
so leaves the low digit (R180). -/
theorem ofInt_daa_add (v : Nat) (h c : Bool) :
    BitVec.ofInt 8 (if h || decide ((if daaHigh v false c then (v : Int) + 0x60 else v) % 16 > 9) then
        (if daaHigh v false c then (v : Int) + 0x60 else v) + 0x06 else if daaHigh v false c then (v : Int) + 0x60 else v) =
      BitVec.ofNat 8 (daaSum v false h c) := by
  have hdigit : (if daaHigh v false c then (v : Int) + 0x60 else v) % 16 > 9 ↔ v % 16 > 9 := by
    split <;> omega
  rw [decide_eq_decide.mpr hdigit, ← daaLow_add]
  apply ofInt_eq_ofNat
  simp only [daaSum, daaAdjust, Bool.false_eq_true, if_false]
  split_ifs <;> omega

/-- DAA is one adjustment on integers (R180). -/
theorem daaResult_eq (a : Byte) (n h c : Bool) :
    let r := BitVec.ofNat 8 (daaSum a.toNat n h c)
    daaResult a n h c = ⟨r, decide (r = 0#8), n, false, daaHigh a.toNat n c⟩ := by
  cases n with
  | true => simp only [daaResult, if_true, ofInt_daa_sub, daaHigh_sub]
  | false =>
    have hover : (a.toNat : Int) > 0x99 ↔ a.toNat > 0x99 := by omega
    simp only [daaResult, Bool.false_eq_true, if_false, hover, ← daaHigh_add, ofInt_daa_add]

/-- Settles O44: DAA writes A and F by `daaResult`, one adjustment on integers. -/
theorem daaAdjustsEveryInput : Obligations.DaaAdjustsEveryInput := by
  intro s v high low adjust
  have hexec := exec_daa s
  rw [adjustDecimal, daaResult_eq] at hexec
  obtain ⟨ha, hflags, hframe⟩ := s.accStep_setA_setFlags (BitVec.ofNat 8 (daaSum v s.flagN s.flagH s.flagC))
    ⟨_, s.flagN, false, daaHigh v s.flagN s.flagC⟩ 4
  exact ⟨rfl, _, hexec, (congrArg BitVec.toNat ha).trans (BitVec.toNat_ofNat _ 8), hflags, hframe⟩

/-! ## Decimal arithmetic -/

theorem bcd_toNat {n : Nat} (h : n < 100) : (bcd n).toNat = n / 10 * 16 + n % 10 := by
  rw [bcd, BitVec.toNat_ofNat]
  omega

/-- DAA after ADD: the high correction is the decimal carry out of two digits, the low one the decimal carry into the tens. -/
theorem daaResult_add8_bcd {x y : Nat} (hx : x < 100) (hy : y < 100) :
    let r := add8 (bcd x) (bcd y) false
    let d := daaResult r.value r.flags.n r.flags.h r.flags.c
    d.value = bcd ((x + y) % 100) ∧ d.flags.c = decide (x + y ≥ 100) := by
  have hhigh : daaHigh (((bcd x).toNat + (bcd y).toNat) % 256) false (decide ((bcd x).toNat + (bcd y).toNat > 255)) =
      decide (x + y ≥ 100) := by
    rw [daaHigh_add, ← Bool.decide_or, decide_eq_decide]
    have hover (r : Nat) : r > 255 ∨ r % 256 > 0x99 ↔ r > 0x99 := by omega
    rw [hover, bcd_toNat hx, bcd_toNat hy]
    have htens : x / 10 + y / 10 < 9 ∨ x / 10 + y / 10 = 9 ∨ 9 < x / 10 + y / 10 := Nat.lt_trichotomy _ _
    rcases htens with htens | htens | htens <;> omega
  have hlow : daaLow (((bcd x).toNat + (bcd y).toNat) % 256) false (decide ((bcd x).toNat % 16 + (bcd y).toNat % 16 > 15)) =
      decide (x % 10 + y % 10 ≥ 10) := by
    rw [daaLow_add, ← Bool.decide_or, decide_eq_decide, bcd_toNat hx, bcd_toNat hy]
    omega
  simp only [add8, carryNat, Bool.false_eq_true, if_false, Nat.add_zero, daaResult_eq, BitVec.toNat_ofNat, Nat.reducePow, daaSum,
    daaAdjust, hhigh, hlow, and_true, decide_eq_true_eq]
  apply BitVec.eq_of_toNat_eq
  rw [BitVec.toNat_ofNat, bcd_toNat (Nat.mod_lt _ (by decide)), bcd_toNat hx, bcd_toNat hy]
  split_ifs <;> omega

/-- DAA after SUB: the high correction is the decimal borrow of two digits, the low one the decimal borrow from the tens. -/
theorem daaResult_sub8_bcd {x y : Nat} (hx : x < 100) (hy : y < 100) :
    let r := sub8 (bcd x) (bcd y) false
    let d := daaResult r.value r.flags.n r.flags.h r.flags.c
    d.value = bcd ((x + 100 - y) % 100) ∧ d.flags.c = decide (x < y) := by
  have hhigh : (sub8 (bcd x) (bcd y) false).flags.c = decide (x < y) := by
    simp only [sub8, carryNat, Bool.false_eq_true, if_false, Nat.add_zero, bcd_toNat hx, bcd_toNat hy, decide_eq_decide]
    omega
  have hlow : (sub8 (bcd x) (bcd y) false).flags.h = decide (x % 10 < y % 10) := by
    simp only [sub8, carryNat, Bool.false_eq_true, if_false, Nat.add_zero, bcd_toNat hx, bcd_toNat hy, decide_eq_decide]
    omega
  have hn : (sub8 (bcd x) (bcd y) false).flags.n = true := rfl
  simp only [hn, daaResult_eq, sub8_value_toNat, daaSum, daaAdjust, daaHigh_sub, daaLow_sub, hhigh, hlow, carryNat,
    Bool.false_eq_true, if_false, and_true, decide_eq_true_eq, if_true]
  apply BitVec.eq_of_toNat_eq
  rw [BitVec.toNat_ofNat, bcd_toNat (Nat.mod_lt _ (by decide)), bcd_toNat hx, bcd_toNat hy]
  split_ifs <;> omega

/-- An operation with an immediate, and then DAA on the A and the flags it left. -/
theorem exec_aluImm_then_daa {op : AluOp} (hwrites : aluWritesA op = true) (n : Byte) (s : State) :
    let r := aluResult op s.a n s.flagC
    let d := daaResult r.value r.flags.n r.flags.h r.flags.c
    ∃ t u, exec (Instr.aluImm op n) s = .next t ∧ exec .daa t = .next u ∧ u.a = d.value ∧ u.flagC = d.flags.c := by
  intro r d
  obtain ⟨t, hnext, ha, ⟨-, hN, hH, hC, -⟩, -⟩ := exec_aluSource op (.imm n) s
  rw [if_pos hwrites] at ha
  have hd : daaResult t.a t.flagN t.flagH t.flagC = d := by rw [ha, hN, hH, hC]; rfl
  have hdaa := exec_daa t
  rw [adjustDecimal, hd] at hdaa
  obtain ⟨hua, ⟨-, -, -, huc, -⟩, -⟩ := t.accStep_setA_setFlags d.value d.flags 4
  exact ⟨t, _, hnext, hdaa, hua, huc⟩

/-- Settles O45: DAA works on the A and the flags that ADD and SUB of two decimals leave. -/
theorem daaCorrectsDecimalAdditionAndSubtraction : Obligations.DaaCorrectsDecimalAdditionAndSubtraction := by
  intro x y s hx hy ha
  have hadd := exec_aluImm_then_daa (op := .add) rfl (bcd y) s
  have hsub := exec_aluImm_then_daa (op := .sub) rfl (bcd y) s
  simp only [aluResult, ha, daaResult_add8_bcd hx hy, daaResult_sub8_bcd hx hy] at hadd hsub
  exact ⟨hadd, hsub⟩

end Sys2Proof.Machine
end

section
/-! PROOFS. ADD HL,rr (R191). -/

namespace Sys2Proof.Machine

/-! ## ADD HL,rr -/

/-- A meaning with no access to memory that ends in a write of HL and of the flags changes nothing else. -/
theorem finish_setHl_setFlags_writes (cost : Nat) (v : Word) (fl : Flags) (s : State) :
    ∃ t, finish cost ((s.setHl v).setFlags fl) = .next t ∧ t.hl = v ∧ State.FlagsAre t fl.z fl.n fl.h fl.c ∧
      State.SameRegsExcept [.h, .l] s t ∧ t.sp = s.sp ∧ t.pc = s.pc ∧ t.cr = cost ∧ State.SameMemory s t ∧
      State.Transacts [] s t ∧ State.SameControl s t :=
  ⟨((s.setHl v).setFlags fl).setCr cost, rfl, by simp, State.flagsAre_of_f rfl,
    fun q hq => by simp [s.sameRegsExcept_setHl v q hq], rfl, rfl, rfl, fun _ => rfl, State.transacts_none rfl rfl,
    by simp [State.SameControl]⟩

/-- Settles O37: HL and F are written with the sum and the carries of `addHlResult`, which is integer arithmetic on the old HL and
the old pair, so doubling HL is no special case. -/
theorem addHlPairCarriesFromBits11And15 : Obligations.AddHlPairCarriesFromBits11And15 := by
  intro p s
  let r := addHlResult s.hl (s.pair p) s.flagZ
  obtain ⟨t, hnext, hhl, hflags, hframe⟩ := finish_setHl_setFlags_writes 8 r.value r.flags s
  have hsum : t.hl.toNat = (s.hl.toNat + (s.pair p).toNat) % 65536 := by
    rw [hhl]
    exact BitVec.toNat_ofNat _ 16
  exact ⟨encode_addHlPair p, t, (exec_addHlPair s p).trans hnext, hsum, hflags, hframe⟩

end Sys2Proof.Machine
end

section
/-! PROOFS. JP a16, JP HL and JR e8 (R202, R204, R205). -/

namespace Sys2Proof.Machine

/-! ## JP a16, JP HL and JR e8 -/

/-- A jump has no access to memory and changes PC and `cr` alone; its target may be given as an integer. -/
theorem jump_reaches {w : Word} {target : Int} (hw : (w.toNat : Int) = target) (cost : Nat) (s : State) :
    ∃ t, jump cost w s = .next t ∧ (t.pc.toNat : Int) = target ∧ t.cr = cost ∧ State.SameRegsExcept [] s t ∧ t.f = s.f ∧
      t.sp = s.sp ∧ State.SameMemory s t ∧ State.Transacts [] s t ∧ State.SameControl s t :=
  ⟨(s.setPc w).setCr cost, rfl, hw, rfl, fun q _ => by simp, rfl, rfl, fun _ => rfl, State.transacts_none rfl rfl,
    by simp [State.SameControl]⟩

/-- Settles O47: each form is one jump, and the relative target is the integer sum modulo 2^16. -/
theorem unconditionalJumpsReachTheirTarget : Obligations.UnconditionalJumpsReachTheirTarget := by
  intro s a e i bytes target cost hrow
  simp only [List.mem_cons, List.not_mem_nil, or_false, Prod.mk.injEq] at hrow
  rcases hrow with ⟨rfl, rfl, rfl, rfl⟩ | ⟨rfl, rfl, rfl, rfl⟩ | ⟨rfl, rfl, rfl, rfl⟩
  · rw [exec_jpA16]
    exact ⟨rfl, jump_reaches rfl 16 s⟩
  · rw [exec_jpHl]
    exact ⟨rfl, jump_reaches rfl 4 s⟩
  · rw [exec_jrE8]
    exact ⟨rfl, jump_reaches (addSigned_toNat s.pc e) 12 s⟩

end Sys2Proof.Machine
end

section
/-! PROOFS. The rotates of A (R240 to R243), and the rotates and shifts of a byte as integer arithmetic (R251 to R265). -/

namespace Sys2Proof.Machine

/-! ## Rotates and shifts as integer arithmetic -/

theorem bitByte_toNat (c : Bool) : (bitByte c).toNat = carryNat c := by
  cases c <;> rfl

theorem carryNat_lt_two (c : Bool) : carryNat c < 2 := by
  cases c <;> decide

/-- Bytes that share no bit, one a multiple of a power of 2 and the other below it, are joined by addition. -/
theorem or_toNat_of_dvd_of_lt {x y : Byte} (i : Nat) (hx : 2 ^ i ∣ x.toNat) (hy : y.toNat < 2 ^ i) :
    (x ||| y).toNat = x.toNat + y.toNat := by
  obtain ⟨k, hk⟩ := hx
  rw [BitVec.toNat_or, hk, Nat.two_pow_add_eq_or_of_lt hy]

theorem topBit_eq (v : Byte) : v.getLsbD 7 = decide (v.toNat ≥ 128) := by
  rw [BitVec.getLsbD, Nat.testBit_eq_decide_div_mod_eq, decide_eq_decide]
  omega

theorem bottomBit_eq (v : Byte) : v.getLsbD 0 = decide (v.toNat % 2 = 1) :=
  Nat.testBit_zero ..

theorem carryNat_topBit (v : Byte) : carryNat (v.getLsbD 7) = v.toNat / 128 := by
  simp only [carryNat, topBit_eq, decide_eq_true_eq]
  split_ifs <;> omega

theorem carryNat_bottomBit (v : Byte) : carryNat (v.getLsbD 0) = v.toNat % 2 := by
  simp only [carryNat, bottomBit_eq, decide_eq_true_eq]
  split_ifs <;> omega

theorem shiftLeft_one_toNat (v : Byte) : (v <<< 1).toNat = 2 * v.toNat % 256 := by
  rw [BitVec.toNat_shiftLeft, Nat.shiftLeft_eq, Nat.mul_comm]

theorem shiftRight_one_toNat (v : Byte) : (v >>> 1).toNat = v.toNat / 2 := by
  rw [BitVec.toNat_ushiftRight, Nat.shiftRight_eq_div_pow]

theorem bitByte_shiftLeft_seven_toNat (c : Bool) : (bitByte c <<< 7).toNat = 128 * carryNat c := by
  cases c <;> rfl

/-- A bit shifted in at the bottom. -/
theorem shiftLeft_or_bit_toNat (v : Byte) (c : Bool) :
    ((v <<< 1) ||| bitByte c).toNat = (2 * v.toNat + carryNat c) % 256 := by
  have hc := carryNat_lt_two c
  have hv := shiftLeft_one_toNat v
  rw [or_toNat_of_dvd_of_lt 1 (by omega) (by rwa [bitByte_toNat]), hv, bitByte_toNat]
  omega

/-- A bit shifted in at the top. -/
theorem shiftRight_or_bit_toNat (v : Byte) (c : Bool) :
    ((v >>> 1) ||| (bitByte c <<< 7)).toNat = v.toNat / 2 + 128 * carryNat c := by
  have hv := shiftRight_one_toNat v
  have hc := bitByte_shiftLeft_seven_toNat c
  rw [BitVec.or_comm, or_toNat_of_dvd_of_lt 7 (by omega) (by omega), hv, hc, Nat.add_comm]

/-- The sign bit that SRA keeps is a bit shifted in at the top. -/
theorem and_topBit_eq (v : Byte) : v &&& 0x80#8 = bitByte (v.getLsbD 7) <<< 7 := by
  rw [show 0x80#8 = BitVec.twoPow 8 7 from rfl, BitVec.and_twoPow]
  cases v.getLsbD 7 <;> rfl

theorem lowNibble_toNat (v : Byte) : (v &&& 0x0F#8).toNat = v.toNat % 16 := by
  rw [BitVec.toNat_and]
  exact Nat.and_two_pow_sub_one_eq_mod v.toNat 4

/-- The nibbles exchanged. -/
theorem swapNibbles_toNat (v : Byte) :
    (((v &&& 0x0F#8) <<< 4) ||| (v >>> 4)).toNat = v.toNat % 16 * 16 + v.toNat / 16 := by
  have hhigh : ((v &&& 0x0F#8) <<< 4).toNat = v.toNat % 16 * 16 := by
    rw [BitVec.toNat_shiftLeft, lowNibble_toNat, Nat.shiftLeft_eq]
    omega
  have hlow : (v >>> 4).toNat = v.toNat / 16 := by
    rw [BitVec.toNat_ushiftRight, Nat.shiftRight_eq_div_pow]
  rw [or_toNat_of_dvd_of_lt 4 (by omega) (by omega), hhigh, hlow]

/-- A rotate or shift of a byte has the integer value of R251 to R265. -/
theorem shiftByte_toNat (op : ShiftOp) (v : Byte) (c : Bool) :
    (shiftByte op v c).1.toNat = (shiftNat op v.toNat (carryNat c)).1 := by
  cases op with
  | rlc => rw [shiftByte, shiftLeft_or_bit_toNat, carryNat_topBit, shiftNat]
  | rrc => rw [shiftByte, shiftRight_or_bit_toNat, carryNat_bottomBit, shiftNat]
  | rl => exact shiftLeft_or_bit_toNat v c
  | rr => exact shiftRight_or_bit_toNat v c
  | sla => exact shiftLeft_one_toNat v
  | sra =>
    rw [shiftByte, and_topBit_eq, shiftRight_or_bit_toNat, topBit_eq, carryNat, shiftNat]
    simp only [decide_eq_true_eq]
    split_ifs <;> rfl
  | swap => exact swapNibbles_toNat v
  | srl => exact shiftRight_one_toNat v

/-- A rotate or shift of a byte leaves the carry of R251 to R265. -/
theorem shiftByte_carry (op : ShiftOp) (v : Byte) (c : Bool) :
    (shiftByte op v c).2 = (shiftNat op v.toNat (carryNat c)).2 := by
  cases op with
  | rlc | rl | sla => exact topBit_eq v
  | rrc | rr | sra | srl => exact bottomBit_eq v
  | swap => rfl

/-! ## RLCA, RRCA, RLA and RRA -/

/-- A rotate of A writes the integer result and the bit shifted out, with Z = 0. -/
theorem rotateA_writes (op : ShiftOp) (s : State) :
    let r := shiftNat op s.a.toNat (carryNat s.flagC)
    ∃ t, rotateA op s = .next t ∧ t.a.toNat = r.1 ∧ State.FlagsAre t false false false r.2 ∧ State.AccStep 4 [] s t := by
  intro r
  have hvalue : (shiftByte op s.a s.flagC).1.toNat = r.1 := shiftByte_toNat op s.a s.flagC
  have hcarry : (shiftByte op s.a s.flagC).2 = r.2 := shiftByte_carry op s.a s.flagC
  let v := accRotateResult op s.a s.flagC
  obtain ⟨ha, hflags, hframe⟩ := s.accStep_setA_setFlags v.value v.flags 4
  exact ⟨_, rfl, (congrArg BitVec.toNat ha).trans hvalue, hcarry ▸ hflags, hframe⟩

/-- Settles O54: each row is one rotate of A, and its flags take Z = 0 from `accRotateResult`, not from the result. -/
theorem accumulatorRotatesClearZero : Obligations.AccumulatorRotatesClearZero := by
  intro s i op shift hrow
  simp only [List.mem_cons, List.not_mem_nil, or_false, Prod.mk.injEq] at hrow
  rcases hrow with ⟨rfl, rfl, rfl⟩ | ⟨rfl, rfl, rfl⟩ | ⟨rfl, rfl, rfl⟩ | ⟨rfl, rfl, rfl⟩
  · exact ⟨rfl, rotateA_writes .rlc s⟩
  · exact ⟨rfl, rotateA_writes .rrc s⟩
  · exact ⟨rfl, rotateA_writes .rl s⟩
  · exact ⟨rfl, rotateA_writes .rr s⟩

end Sys2Proof.Machine
end

section
/-! PROOFS. The extended rotates and shifts (R250 to R266): a read-modify-write whose Z follows the result. -/

namespace Sys2Proof.Machine

theorem exec_shift8 (op : ShiftOp) (o : Operand8) (s : State) :
    exec (Instr.shift8 op o) s = finish (if o = .atHl then 16 else 8)
      ((s.updateOperand o (shiftResult op (s.operand o) s.flagC).value).setFlags
        (shiftResult op (s.operand o) s.flagC).flags) := by
  cases o with
  | reg r => exact exec_shiftReg s op r
  | atHl => exact exec_shiftAtHl s op

/-- The common flag step of R250 on integers: Z follows the result, C is the bit shifted out. -/
theorem shiftResult_eq (op : ShiftOp) (v : Byte) (c : Bool) :
    let r := shiftNat op v.toNat (carryNat c)
    shiftResult op v c = ⟨BitVec.ofNat 8 r.1, ⟨decide (r.1 = 0), false, false, r.2⟩⟩ := by
  intro r
  have hvalue : (shiftByte op v c).1.toNat = r.1 := shiftByte_toNat op v c
  have hcarry : (shiftByte op v c).2 = r.2 := shiftByte_carry op v c
  have hzero : (shiftByte op v c).1 = 0#8 ↔ r.1 = 0 := by rw [← hvalue, ← BitVec.toNat_inj, BitVec.toNat_zero]
  simp only [shiftResult, hzero, hcarry, ← hvalue, BitVec.ofNat_toNat, BitVec.setWidth_eq]

/-- The integer result of a rotate or shift is a byte. -/
theorem shiftNat_lt (op : ShiftOp) (v : Byte) (c : Bool) : (shiftNat op v.toNat (carryNat c)).1 < 256 :=
  shiftByte_toNat op v c ▸ (shiftByte op v c).1.isLt

/-- Settles O55: a read-modify-write of the operand with the value and the flags of `shiftResult_eq`. -/
theorem extendedShiftsSetZeroFromTheResult : Obligations.ExtendedShiftsSetZeroFromTheResult := by
  intro op o s r
  have hresult : shiftResult op (s.operand o) s.flagC =
      ⟨BitVec.ofNat 8 r.1, ⟨decide (r.1 = 0), false, false, r.2⟩⟩ := shiftResult_eq op (s.operand o) s.flagC
  have hexec := exec_shift8 op o s
  rw [hresult] at hexec
  obtain ⟨hupdates, hframe⟩ := s.updateOperand_setFlags o (BitVec.ofNat 8 r.1) ⟨decide (r.1 = 0), false, false, r.2⟩
    (if o = .atHl then 16 else 8)
  exact ⟨encode_shift8 op o, _, hexec, hupdates, shiftNat_lt op (s.operand o) s.flagC, hframe⟩

end Sys2Proof.Machine
end

section
/-! PROOFS. NOP, DI, EI, STOP, HALT and the unused opcodes (R280 to R285): instructions that write nothing but control state. -/

namespace Sys2Proof.Machine

/-! ## Writes of control state alone -/

/-- `u` with the interrupt, wait, lock and fault state of `s`. -/
def State.withControlOf (u s : State) : State :=
  { u with
    ime := s.ime
    eiPending := s.eiPending
    halted := s.halted
    stopped := s.stopped
    haltBug := s.haltBug
    locked := s.locked
    fault := s.fault }

theorem State.sameControl_setCr (u : State) (cost : Nat) : State.SameControl u (u.setCr cost) := by
  simp [State.SameControl]

/-- A meaning whose effect `u` differs from `s` in control state alone has no other effect; `P` is what is said of that state. -/
theorem finish_writesControl {cost : Nat} {s u : State} {P : State → Prop} (h : u.withControlOf s = s)
    (hP : P (u.setCr cost)) :
    ∃ t, finish cost u = .next t ∧ t.cr = cost ∧ State.SameRegsExcept [] s t ∧ t.f = s.f ∧ t.sp = s.sp ∧ t.pc = s.pc ∧
      State.SameMemory s t ∧ State.Transacts [] s t ∧ P t := by
  have hdata : ∀ {α : Type} (view : State → α), view (u.withControlOf s) = view s := fun view => congrArg view h
  exact ⟨u.setCr cost, rfl, rfl, fun q _ => hdata (State.reg · q), hdata State.f, hdata State.sp, hdata State.pc,
    State.peek_of_mem (hdata State.mem), State.transacts_none (hdata State.trace) (hdata State.answers), hP⟩

/-! ## NOP, DI, EI and STOP -/

/-- Settles O58: each row writes control bits alone. -/
theorem nopDiEiAndStopCompleteInFourTicks : Obligations.NopDiEiAndStopCompleteInFourTicks := by
  intro x s i bytes u hrow
  simp only [List.mem_cons, List.not_mem_nil, or_false, Prod.mk.injEq] at hrow
  rcases hrow with ⟨rfl, rfl, rfl⟩ | ⟨rfl, rfl, rfl⟩ | ⟨rfl, rfl, rfl⟩ | ⟨rfl, rfl, rfl⟩ <;>
  exact ⟨rfl, finish_writesControl rfl (State.sameControl_setCr _ 4)⟩

/-! ## HALT -/

/-- The core sees no request exactly where none is pending on connected lines (R306). -/
theorem State.irqLines_eq_zero_iff (s : State) : s.irqLines = 0#5 ↔ (s.cfg.irqConnected && s.irqReq != 0#5) = false := by
  unfold State.irqLines
  split <;> simp [*]

/-- Settles O59: which control bit HALT writes depends on the request and on IME. -/
theorem haltWaitsUnlessARequestIsPending : Obligations.HaltWaitsUnlessARequestIsPending := by
  intro s pending
  have hexec : exec .halt s = finish 4 (if pending = false then s.setHalted true
      else if s.ime then s else s.setHaltBug true) := by
    rw [exec_halt, enterHalt_eq, if_congr s.irqLines_eq_zero_iff rfl rfl]
  rw [hexec]
  refine ⟨rfl, finish_writesControl ?_ ⟨fun hp => ?_, fun hp hime => ?_, fun hp hime => ?_⟩⟩
  · split
    · rfl
    · split <;> rfl
  · rw [if_pos hp]
    exact State.sameControl_setCr _ 4
  · rw [if_neg (by simp [hp]), if_neg (by simp [hime])]
    exact State.sameControl_setCr _ 4
  · rw [if_neg (by simp [hp]), if_pos hime]
    exact State.sameControl_setCr _ 4

/-! ## The unused opcodes -/

/-- Settles O60: which control element an unused opcode writes depends on its mode. -/
theorem unusedOpcodesFollowTheirMode : Obligations.UnusedOpcodesFollowTheirMode := by
  intro u s
  rw [exec_unused, unusedOpcode_eq]
  refine ⟨(spells_unused u).encode_eq, finish_writesControl ?_ ⟨fun hmode => ?_, fun hmode => ?_, fun hmode => ?_⟩⟩
  · cases s.cfg.illegalOpcodeMode <;> rfl
  all_goals
    rw [hmode]
    exact State.sameControl_setCr _ 4

end Sys2Proof.Machine
end

section
/-! PROOFS. What a tick can do, said once, and what follows for the waits, the lock-up, the faults (R304, R305, R315, R316, R320) and
the end of a run (R351). -/

namespace Sys2Proof.Machine

variable {s t : State}

/-! ## A dead core, however often it is ticked -/

/-- A state that a tick leaves as it is stays as it is. -/
theorem run_of_step_self (h : step s = .next s) (k : Nat) : core.run k s = .next s := by
  induction k with
  | zero => rfl
  | succ k ih =>
    have hstep : core.step s = .next s := h
    simp only [Host.Core.run, hstep, ih]

/-- A core is dead by a fault or by a lock-up (R304, R305). -/
theorem State.dead_iff (s : State) : s.dead = true ↔ s.fault ≠ .none ∨ s.locked = true := by
  simp [State.dead]

theorem State.not_dead_iff (s : State) : s.dead = false ↔ s.fault = .none ∧ s.locked = false := by
  simp [State.dead]

/-- Settles O13: a tick of a dead core leaves it as it is. -/
theorem faultedOrLockedCoreStaysAsItIs : Obligations.FaultedOrLockedCoreStaysAsItIs := fun s k h =>
  run_of_step_self (step_dead (s.dead_iff.mpr h)) k

/-- Settles O8: a core of another model is a faulted core. -/
theorem unsupportedModelNeverExecutes : Obligations.UnsupportedModelNeverExecutes := by
  intro cfg mem name k hother
  have hfault := State.construct_other_fault hother mem
  exact faultedOrLockedCoreStaysAsItIs _ k (.inl (by simp [hfault]))

/-! ## What a tick can do -/

/-- The input levels of a tick and its count leave the run state, the configuration, the memory's behaviour and the trace. -/
theorem State.countDown_frame (s : State) : s.countDown.dead = s.dead ∧ s.countDown.halted = s.halted ∧
    s.countDown.stopped = s.stopped ∧ s.countDown.locked = s.locked ∧ s.countDown.fault = s.fault ∧ s.countDown.cfg = s.cfg ∧
    s.countDown.regions = s.regions ∧ s.countDown.trace = s.trace := by
  rw [State.countDown, State.sampleInputs_eq]
  exact ⟨rfl, rfl, rfl, rfl, rfl, rfl, rfl, rfl⟩

/-- The state in which the instruction of a dispatching tick is run: counted, EI applied, and the instruction fetched. -/
def State.fetched (s : State) : State :=
  s.countDown.applyEi.fetchInstr.2

/-- The six ways a tick can go (R81, R82), with what each leaves. -/
inductive TickCase (s t : State) : Prop
  /-- A faulted or locked core stays. -/
  | dead (hdead : s.dead = true) (ht : t = s)
  /-- A busy core counts. -/
  | busy (hlive : s.dead = false) (hcr : 1 < s.cr) (ht : t = s.countDown)
  /-- A stopped core looks at `stop_wake`. -/
  | stopped (hlive : s.dead = false) (hcr : s.cr ≤ 1) (hstopped : s.stopped = true)
    (ht : t = if s.cfg.stopWakeConnected && s.sampleInputs.stopWake then (s.countDown.setStopped false).setCr 4
      else s.countDown)
  /-- A halted core looks at the request lines. -/
  | halted (hlive : s.dead = false) (hcr : s.cr ≤ 1) (hstopped : s.stopped = false) (hhalted : s.halted = true)
    (ht : t = if s.cfg.irqConnected = true ∧ s.sampleInputs.irqReq ≠ 0#5 then (s.countDown.setHalted false).setCr 4
      else s.countDown)
  /-- A running core accepts an interrupt. -/
  | interrupt (hrun : s.running = true) (hcr : s.cr ≤ 1) (n : Fin 5) (ht : t = s.countDown.interruptEntry n)
  /-- A running core dispatches an instruction. -/
  | dispatch (hrun : s.running = true) (hcr : s.cr ≤ 1) (i : Instr) (he : exec i s.fetched = .next t)

/-- Every tick goes one of the six ways. -/
theorem tickCase_of_step (h : step s = .next t) : TickCase s t := by
  cases hd : s.dead with
  | true =>
    rw [step_dead hd] at h
    exact .dead hd (Host.Outcome.next.inj h).symm
  | false =>
    rcases Nat.lt_or_ge 1 s.cr with hbusy | hlast
    · rw [step_busy hd hbusy] at h
      exact .busy hd hbusy (Host.Outcome.next.inj h).symm
    · obtain ⟨ofStopped, ofHalted⟩ := stoppedAndHaltedCoresWaitForTheirWakeUp s hd hlast
      cases hs : s.stopped with
      | true =>
        rw [ofStopped hs] at h
        refine .stopped hd hlast hs ?_
        rw [State.countDown_last hlast]
        exact (Host.Outcome.next.inj h).symm
      | false =>
        cases hh : s.halted with
        | true =>
          rw [ofHalted hs hh] at h
          refine .halted hd hlast hs hh ?_
          rw [State.countDown_last hlast]
          exact (Host.Outcome.next.inj h).symm
        | false =>
          have hrun := s.running_iff.mpr ⟨hd, hh, hs⟩
          rw [step_running hrun hlast] at h
          split at h
          · exact .interrupt hrun hlast _ (Host.Outcome.next.inj h).symm
          · obtain ⟨i, hdecode⟩ := s.countDown.applyEi.fetchInstr_decodes
            rw [dispatch_of_decode hdecode] at h
            exact .dispatch hrun hlast i h

/-! ## How an instruction finds the machine, and how it can end it -/

/-- Up to the instruction's own effect a dispatching tick leaves the configuration and the memory's behaviour. -/
theorem State.fetched_frame (s : State) : s.fetched.cfg = s.cfg ∧ s.fetched.regions = s.regions := by
  obtain ⟨-, -, -, -, -, hcfg, hregions, -⟩ := s.countDown_frame
  obtain ⟨_, _, _, he⟩ := s.countDown.applyEi.fetchInstr_frame
  rw [State.fetched, he, State.applyEi_eq]
  exact ⟨hcfg, hregions⟩

theorem State.fetched_clear (h : s.running = true) : s.fetched.Clear := by
  obtain ⟨hlive, hhalted, hstopped⟩ := s.running_iff.mp h
  obtain ⟨hdead, hh, hs, -⟩ := s.countDown_frame
  exact State.clear_fetchInstr (hdead.trans hlive) (hs.trans hstopped) (hh.trans hhalted)

/-- An instruction locks a core or loads its fault only in the mode for it (R285, R303, R305). -/
theorem State.Clear.mode_of_exec (hc : s.Clear) {i : Instr} (he : exec i s = .next t) :
    (t.locked = true → s.cfg.illegalOpcodeMode = .lockup) ∧ (t.fault ≠ .none → s.cfg.illegalOpcodeMode = .fatal) := by
  obtain ⟨-, -, -, -, -, lockedOf, faultOf, -⟩ := controlStateHasOnlyItsWriters i s t he
  refine ⟨fun ht => ?_, fun ht => ?_⟩
  · obtain ⟨u, rfl⟩ := lockedOf (by simp [ht, hc.locked])
    rcases exec_unused_cases he with rfl | ⟨-, rfl⟩ | ⟨hmode, -⟩
    · simp [hc.locked] at ht
    · simp [hc.locked] at ht
    · exact hmode
  · obtain ⟨u, rfl⟩ := faultOf (by simpa [hc.fault] using ht)
    rcases exec_unused_cases he with rfl | ⟨hmode, -⟩ | ⟨-, rfl⟩
    · simp [hc.fault] at ht
    · exact hmode
    · simp [hc.fault] at ht

/-! ## The waits, the lock-up and the faults -/

/-- Settles O24: of the six ways, a wake-up alone leaves a wait, and a dispatch alone enters one, locks or faults. -/
theorem waitsAreLeftOnlyByTheirInputs : Obligations.WaitsAreLeftOnlyByTheirInputs := by
  intro s t h
  cases tickCase_of_step h with
  | dead hdead ht =>
    subst ht
    simp +contextual
  | busy hlive hcr ht => simp +contextual [ht, s.countDown_frame, s.not_dead_iff.mp hlive]
  | stopped hlive hcr hstopped ht =>
    split at ht
    · next hwake =>
      simp +contextual [ht, s.countDown_frame, s.not_dead_iff.mp hlive, hcr, Bool.and_eq_true_iff.mp hwake]
    · simp +contextual [ht, s.countDown_frame, s.not_dead_iff.mp hlive]
  | halted hlive hcr hstopped hhalted ht =>
    split at ht
    · next hwake => simp +contextual [ht, s.countDown_frame, s.not_dead_iff.mp hlive, hcr, hwake]
    · simp +contextual [ht, s.countDown_frame, s.not_dead_iff.mp hlive]
  | interrupt hrun hcr n ht =>
    obtain ⟨hlive, hhalted, hstopped⟩ := s.running_iff.mp hrun
    simp [ht, State.interruptEntry_eq, s.countDown_frame, s.not_dead_iff.mp hlive, hhalted, hstopped]
  | dispatch hrun hcr i he =>
    obtain ⟨hlive, hhalted, hstopped⟩ := s.running_iff.mp hrun
    obtain ⟨hnofault, hunlocked⟩ := s.not_dead_iff.mp hlive
    obtain ⟨hcfg, hregions⟩ := s.fetched_frame
    obtain ⟨hcfg', -, -, -, -, hregions'⟩ := (State.becomes_of_exec he).fixed
    obtain ⟨hlockup, hfatal⟩ := (State.fetched_clear hrun).mode_of_exec he
    rw [hcfg] at hlockup hfatal
    exact ⟨by simp [hhalted], by simp [hstopped], fun _ _ => hrun, fun _ _ => hrun, by simp [hunlocked], by simp [hnofault],
      fun _ ht => ⟨hlockup ht, hrun⟩, fun _ ht => ⟨hfatal ht, hrun⟩, hcfg'.trans hcfg, hregions'.trans hregions⟩

/-! ## The end of a run -/

/-- The fetch of the opcode is a transaction, and the operand fetches only add to it (R60). -/
theorem State.trace_length_lt_fetchInstr (s : State) : s.trace.length < s.fetchInstr.2.trace.length := by
  have hopcode : s.fetchOpcode.2.trace = .read s.pc (s.answer s.pc) :: s.trace := by
    cases hbug : s.haltBug with
    | false => rw [State.fetchOpcode_eq hbug]; rfl
    | true => rw [State.fetchOpcode_haltBug hbug]; rfl
  simp only [State.fetchInstr, State.fetchBytes_eq, hopcode, List.length_append, List.length_cons]
  omega

/-- A running core's boundary makes a transaction: an interrupt entry pushes PC, and a dispatch fetches (R60, R309). -/
theorem trace_length_lt_of_running (hrun : s.running = true) (hcr : s.cr ≤ 1) (h : step s = .next t) :
    s.trace.length < t.trace.length := by
  obtain ⟨hlive, hhalted, hstopped⟩ := s.running_iff.mp hrun
  have hcount : s.countDown.trace = s.trace := by simp [s.countDown_frame]
  cases tickCase_of_step h with
  | dead hdead => exact absurd (hdead.symm.trans hlive) nofun
  | busy _ hbusy => omega
  | stopped _ _ hwaits => exact absurd (hwaits.symm.trans hstopped) nofun
  | halted _ _ _ hwaits => exact absurd (hwaits.symm.trans hhalted) nofun
  | interrupt _ _ n ht =>
    obtain ⟨htrace, -⟩ := s.countDown.transacts_interruptEntry n
    rw [ht, htrace, List.length_append, hcount]
    simp
  | dispatch _ _ i he =>
    obtain ⟨evs, htrace, -⟩ := (State.becomes_of_exec he).transacts
    have hfetch := s.countDown.applyEi.trace_length_lt_fetchInstr
    have hbefore : s.countDown.applyEi.trace = s.trace := by rw [State.applyEi_eq, hcount]
    rw [htrace, List.length_append, State.fetched, ← hbefore]
    omega

/-- With no count left and no coming levels listed, a tick's count changes nothing (log entry 3). -/
theorem State.countDown_self (hcr : s.cr = 0) (hin : s.inputs = []) : s.countDown = s := by
  have hcount : s.cr - 1 = s.cr := by omega
  rw [State.countDown_no_inputs hin, hcount]
  rfl

/-- R351's four ways of being over. -/
theorem State.runOver_iff (s : State) : s.runOver = true ↔ s.dead = true ∨
    (s.halted = true ∧ s.cfg.irqConnected = false) ∨ (s.stopped = true ∧ s.cfg.stopWakeConnected = false) := by
  simp [State.runOver, State.dead, or_assoc]

/-- A tick of a run that is over changes nothing: the core is dead, or its wait has no wake-up. -/
theorem step_of_runOver (hwait : s.halted = true → s.stopped = false) (hcr : s.cr = 0) (hin : s.inputs = [])
    (hover : s.runOver = true) : step s = .next s := by
  have hcount := State.countDown_self hcr hin
  obtain ⟨t, h⟩ := everyTickAnswersANextState s
  suffices ht : t = s by rw [h, ht]
  rw [State.runOver_iff] at hover
  cases tickCase_of_step h with
  | dead _ ht => exact ht
  | busy _ hbusy => omega
  | stopped hlive _ hstopped ht =>
    have hunconnected : s.cfg.stopWakeConnected = false := by
      have hnohalt : s.halted = false := by simpa [hstopped] using hwait
      simpa [hlive, hstopped, hnohalt] using hover
    rw [ht, hunconnected, Bool.false_and, if_neg Bool.false_ne_true, hcount]
  | halted hlive _ hstopped hhalted ht =>
    have hunconnected : s.cfg.irqConnected = false := by simpa [hlive, hstopped, hhalted] using hover
    rw [ht, hunconnected, if_neg (by simp), hcount]
  | interrupt hrun | dispatch hrun =>
    obtain ⟨hlive, hhalted, hstopped⟩ := s.running_iff.mp hrun
    simp [hlive, hhalted, hstopped] at hover

/-- With every input at 1, a tick of a run that is not over changes the state: a wait ends, or a transaction is made. -/
theorem step_ne_self_of_not_runOver (hcr : s.cr = 0) (hin : s.inputs = []) (hirq : s.irqReq ≠ 0#5)
    (hwake : s.stopWake = true) (hover : s.runOver = false) : step s ≠ .next s := by
  intro h
  have hnot : ¬ s.runOver = true := by simp [hover]
  rw [State.runOver_iff] at hnot
  have hsample : s.sampleInputs = s := by simp only [State.sampleInputs, hin]
  cases tickCase_of_step h with
  | dead hdead => exact hnot (.inl hdead)
  | busy _ hbusy => omega
  | stopped _ _ hstopped ht =>
    have hconnected : s.cfg.stopWakeConnected = true := by
      by_contra hno
      exact hnot (.inr (.inr ⟨hstopped, by simpa using hno⟩))
    rw [hsample, hconnected, hwake, Bool.and_self, if_pos rfl] at ht
    exact absurd (hcr.symm.trans (congrArg State.cr ht)) nofun
  | halted _ _ _ hhalted ht =>
    have hconnected : s.cfg.irqConnected = true := by
      by_contra hno
      exact hnot (.inr (.inl ⟨hhalted, by simpa using hno⟩))
    rw [hsample, if_pos ⟨hconnected, hirq⟩] at ht
    exact absurd (hcr.symm.trans (congrArg State.cr ht)) nofun
  | interrupt hrun hlast | dispatch hrun hlast => exact Nat.lt_irrefl _ (trace_length_lt_of_running hrun hlast h)

/-- Settles O25: no levels change a run that is over, and all lines at 1 change one that is not. -/
theorem runIsOverExactlyWhenNoTickChangesAnything : Obligations.RunIsOverExactlyWhenNoTickChangesAnything := by
  intro s hinv hcr hin
  refine ⟨fun hover lv => step_of_runOver (s := s.withLevels lv) hinv.oneWait hcr hin hover, fun hself => ?_⟩
  by_contra hover
  exact step_ne_self_of_not_runOver (s := s.withLevels ⟨31#5, true⟩) hcr hin (by simp [State.withLevels]) rfl
    (Bool.eq_false_iff.mpr hover) (hself ⟨31#5, true⟩)

end Sys2Proof.Machine
end
